-- ==== Sys2Proof/Word.lean ====
section
/-! DEFINITION. Word types of the Solzena PH-620 model: ring bytes and the 32-bit counts that wrap (R71). -/
namespace Sys2Proof

/-- One byte of a ring frame or of pattern memory (R194). -/
abbrev Byte := BitVec 8

/-- An infeed, belt or formed position: a 32-bit count of 0.1 mm units that wraps (R71). -/
abbrev Position := BitVec 32

/-- A reading of the part's own millisecond clock, a 32-bit count that wraps (R71). -/
abbrev Clock := BitVec 32

/-- A source node's STAMP: its own milliseconds, a 32-bit count (R71). -/
abbrev Stamp := BitVec 32

end Sys2Proof
end

