-- ==== Sys2Proof/Syntax.lean ====
section
/-! DEFINITION. The commands of the PH-620: one constructor per row of spec/opcode_table.json. Each is one whole,
indivisible step of the part. The table gives the rows no bit fields, so a command carries its operands as data: a
request its argument bytes, a sample its frame's fields, and every step but the reset pin's the part's clock reading
at which it is taken (assumption 1). -/
namespace Sys2Proof

/-- The two encoders (section 4.2). -/
inductive Encoder where
  | infeed | belt
deriving DecidableEq, Repr

/-- The two halves of a steam zone (chapter 5). -/
inductive Half where
  | upper | lower
deriving DecidableEq, Repr

/-- The two supply roll positions (section 7.1). -/
inductive Unwind where
  | a | b
deriving DecidableEq, Repr

/-- A management request as RP hands it to MU: SRC, TAG, the argument bytes after TAG, and the arrival time (R180,
R194). The REQ code is the command's own, except for REQUEST_UNKNOWN. -/
structure Request where
  /-- SRC of the frame. -/
  src  : Byte
  /-- TAG, echoed in the response. -/
  tag  : Byte
  /-- The argument bytes, LEN - 2 of them. -/
  args : List Byte
  /-- The part's clock reading at the frame's arrival. -/
  time : Clock
deriving DecidableEq, Repr

/-- A sample as RP hands it to the owner of its role (R186). -/
structure Sample where
  /-- VALUE as a 32-bit count. -/
  value : BitVec 32
  /-- QUAL: 0 is good quality, every other value reports a fault. -/
  qual  : Byte
  /-- STAMP of the frame. -/
  stamp : Stamp
  /-- The part's clock reading at the frame's arrival. -/
  time  : Clock
deriving DecidableEq, Repr

/-- The commands: one constructor per row of the opcode table, in the table's order. -/
inductive Instr where
  /-- RESET_ASSERT (R193). -/
  | resetAssert
  /-- RESET_RELEASE (R193): the six address straps and the rate strap (high: 25 Mbit/s) as read (R182). -/
  | resetRelease (address : BitVec 6) (fast : Bool)
  /-- PATTERN_CLEAR_DONE (R209). -/
  | patternClearDone (time : Clock)
  /-- FRAME_RECEIVED (R179, R180): the bytes received between two idles, and the time the last one arrived. -/
  | frameReceived (burst : List Byte) (time : Clock)
  /-- PORT_FREE (R192). -/
  | portFree (time : Clock)
  /-- REQUEST_UNKNOWN (R196): a request whose REQ code names no request. -/
  | requestUnknown (code : Byte) (rq : Request)
  /-- WRITE (R199). -/
  | write (rq : Request)
  /-- CONTINUE (R201). -/
  | continueWrite (rq : Request)
  /-- CLOSE (R202). -/
  | closeWrite (rq : Request)
  /-- WRITE_TIMEOUT (R198). -/
  | writeTimeout (time : Clock)
  /-- READ (R203). -/
  | read (rq : Request)
  /-- STATUS (R205). -/
  | status (rq : Request)
  /-- START (R168). -/
  | start (rq : Request)
  /-- STOP (R170). -/
  | stop (rq : Request)
  /-- RESTART (R65). -/
  | restart (rq : Request)
  /-- RELEASE (R70). -/
  | release (rq : Request)
  /-- ADMIT (R34). -/
  | admitPiece (rq : Request)
  /-- ENLIST (R29). -/
  | enlist (rq : Request)
  /-- WITHDRAW (R30). -/
  | withdraw (rq : Request)
  /-- CLEAR naming a slot (R31). -/
  | clearSlot (rq : Request)
  /-- CLEAR naming the line (R174). -/
  | clearLine (rq : Request)
  /-- STANDBY (R97). -/
  | standby (rq : Request)
  /-- WAKE (R96). -/
  | wake (rq : Request)
  /-- PURGE (R7). -/
  | purge (rq : Request)
  /-- SPEED (R128). -/
  | speed (rq : Request)
  /-- ACKNOWLEDGE (R207). -/
  | acknowledge (rq : Request)
  /-- LINE RESET (R208). -/
  | lineReset (rq : Request)
  /-- ENCODER_SAMPLE (R73). -/
  | encoderSample (enc : Encoder) (x : Sample)
  /-- ENCODER_STALE (R76). -/
  | encoderStale (enc : Encoder) (time : Clock)
  /-- PROBE_SAMPLE (R91); zone index 0 is zone 1. -/
  | probeSample (zone : Fin 8) (half : Half) (x : Sample)
  /-- HALF_EXPIRY (R92); zone index 0 is zone 1. -/
  | halfExpiry (zone : Fin 8) (half : Half) (time : Clock)
  /-- UNWIND_STATUS_SAMPLE (R130). -/
  | unwindStatusSample (unwind : Unwind) (x : Sample)
  /-- UNWIND_DIAMETER_SAMPLE (R131). -/
  | unwindDiameterSample (unwind : Unwind) (x : Sample)
  /-- SPLICER_STATUS_SAMPLE (R140). -/
  | splicerStatusSample (x : Sample)
  /-- SPLICE_TIMEOUT (R141). -/
  | spliceTimeout (time : Clock)
  /-- TAKE_UP_DIAMETER_SAMPLE (R150). -/
  | takeUpDiameterSample (x : Sample)
  /-- TAKE_UP_STATUS_SAMPLE (R151). -/
  | takeUpStatusSample (x : Sample)
  /-- CUT_TIMEOUT (R161). -/
  | cutTimeout (time : Clock)
deriving DecidableEq, Repr

end Sys2Proof
end

