-- ==== Sys2Proof/Decode.lean ====
section
/-! DEFINITION. The command a word spells by the opcode table's bits. -/
namespace Sys2Proof

/-- No row of spec/opcode_table.json gives bits: the part has no instruction words, its commands are frames, pin
events and timer expiries. So no word spells a command. -/
def decodeTableWord (_nbits _w : Nat) : Option Instr := none

end Sys2Proof
end

