-- ==== Sys2Proof/Config.lean ====
section
/-! DEFINITION. The fixed sizes, limits and intervals the manual gives, and the values it leaves open. -/
namespace Sys2Proof.Config

/-- Entries of pattern memory (section 1.1). -/
def patternEntries : Nat := 4096
/-- Bytes of one pattern entry (section 1.1). -/
def entryBytes : Nat := 16
/-- Records the piece queue can hold (R32, R39). -/
def queueLimit : Nat := 48
/-- FOLD frames the blade slot can hold (R60). -/
def bladeLimit : Nat := 4
/-- Frames the forward buffer can hold (R181). -/
def forwardLimit : Nat := 8
/-- Frames the REPORT queue can hold (R190). -/
def reportLimit : Nat := 16
/-- Ids one manifest can list (section 8.2). -/
def manifestLimit : Nat := 64
/-- Ids one ROLL notice frame carries (R162). -/
def rollFrameIds : Nat := 24
/-- Units of belt in one cell (R80). -/
def cellUnits : Nat := 1000
/-- An encoder advance above this is a jump (R75). -/
def jumpLimit : Nat := 8000
/-- Encoder staleness interval, ms (R76). -/
def encoderStaleMs : Nat := 200
/-- Probe half staleness interval, ms (R92). -/
def halfExpiryMs : Nat := 1000
/-- The most time one accrual credits, ms (R111). -/
def accrualLimitMs : Nat := 1000
/-- The most a cell's dose can hold, 0.1 °C·s (R114). -/
def doseLimit : Nat := 16777215
/-- Splicer completion interval, ms (R141). -/
def spliceTimeoutMs : Nat := 2000
/-- Knife and turret completion interval, ms (R161). -/
def cutTimeoutMs : Nat := 5000
/-- Open write interval, ms (R198). -/
def writeTimeoutMs : Nat := 200
/-- Shortest planned belt length (R21). -/
def planMinimum : Nat := 3000
/-- Longest planned infeed length (R21). -/
def planLimit : Nat := 200000
/-- Bytes of one READ answer's stream at most (R204). -/
def readStreamBytes : Nat := 416
/-- Stream bytes one READ frame carries (R204). -/
def readFrameBytes : Nat := 52

/-- FREE VALUE (DESIGN CHOICE, assumption 23). The unlisted count is sent in two bytes and the manual states no
result for a count above 65,535 (R154, R162, R194). This constant gives those two bytes and nothing can be proved
of it. -/
opaque unlistedWord : Nat → BitVec 16

/-- FREE VALUE (DESIGN CHOICE, assumption 36). Bytes of a read record that stand for something absent where the manual
gives no reading of it: places 0 to 3 are the entry index (2), level and cursor of a slot without a fault record
(R27, R194), place 4 is the last order's load number when the last order is absent (R163, R194). -/
opaque absentByte : Nat → BitVec 8

/-- FREE VALUE (DESIGN CHOICE, assumption 54). A run's lead is read in two bytes, and the lead of a FLAT plan reaches
200,000 (R15, R194, R204). This constant gives the two bytes of a lead above 65,535 and nothing can be proved of it. -/
opaque leadWord : Nat → BitVec 16

end Sys2Proof.Config
end

