-- ==== Sys2Proof/Machine/State.lean ====
section
/-! DEFINITION. The state of the PH-620, block by block, as plain data, and its value after hard reset. Fields that
the manual only implies, or that are the model's own, say so. -/
namespace Sys2Proof.Machine

/-! ### Pattern memory, lookaside and fold plans (chapter 1) -/

/-- Fold kinds of a run (section 1.1); the fourth code names none. -/
inductive RunKind where
  | knife | box | accordion
deriving DecidableEq, Repr

/-- Fold directions (section 1.1). -/
inductive Dir where
  | left | right
deriving DecidableEq, Repr

/-- One run copy of a fold plan, as adjusted, with its effective flat bit (R24). -/
structure Run where
  count      : Nat
  spacing    : Nat
  depthStart : Nat
  depthEnd   : Nat
  taper      : Nat
  kind       : RunKind
  dir        : Dir
  lead       : Nat
  flat       : Bool
deriving DecidableEq, Repr

/-- The fold plan record (R24). -/
structure Plan where
  mirror   : Bool
  runs     : List Run
  cls      : Fin 16
  tail     : Nat
  infeed   : Nat
  belt     : Nat
  adjusted : Bool
deriving DecidableEq, Repr

/-- Kinds of admission fault (R16). -/
inductive WalkFault where
  | invalid | type | range | empty | limit
deriving DecidableEq, Repr

/-- Levels of the admission walk (R16). -/
inductive WalkLevel where
  | grade | style | panel | plan
deriving DecidableEq, Repr

/-- The fault record a faulted walk hands to PQ (R16). -/
structure FaultRecord where
  kind   : WalkFault
  entry  : Nat
  level  : WalkLevel
  cursor : Nat
deriving DecidableEq, Repr

/-- One lookaside entry (R4). -/
structure LookEntry where
  valid : Bool
  tag   : Nat
  slot  : Fin 8
  copy  : List Byte
deriving DecidableEq, Repr

/-- PX: pattern memory, the clear in progress (R1), the lookaside and its pointer (R4). `mem` is byte-addressed,
entry index times 16 plus the byte's place, and lists only the bytes that are not 0. -/
structure Translator where
  mem       : List Host.Cell
  clearing  : Bool
  lookaside : Vector LookEntry 32
  pointer   : Fin 32
deriving DecidableEq, Repr

/-! ### Orders and pieces (chapter 2) -/

/-- Order slot states (section 2.1). -/
inductive SlotState where
  | empty | loaded | active | done | faulted
deriving DecidableEq, Repr

/-- Designation types (R10). -/
inductive Designation where
  | grade | style | panel | flat
deriving DecidableEq, Repr

/-- One order slot (section 2.1). -/
structure OrderSlot where
  state      : SlotState
  dtype      : Designation
  origin     : Nat
  length     : Nat
  flatLength : Nat
  gradeIndex : Nat
  cls        : Fin 16
  requested  : Nat
  done       : Nat
  cursor     : Nat
  load       : BitVec 8
  fault      : Option FaultRecord
deriving DecidableEq, Repr

/-- Piece states (section 2.6). DONE is not held: a piece leaves the queue as it becomes DONE (R44). -/
inductive PieceState where
  | admitted | forming | formed
deriving DecidableEq, Repr

/-- Verdicts of cells and pieces (section 2.5, R115). -/
inductive Verdict where
  | good | uncertain | under | over | filler
deriving DecidableEq, Repr

/-- The eight piece flags (section 2.5). -/
structure PieceFlags where
  filler       : Bool := false
  short        : Bool := false
  adjusted     : Bool := false
  spliced      : Bool := false
  spliceForced : Bool := false
  cutForced    : Bool := false
  split        : Bool := false
  foldLost     : Bool := false
deriving DecidableEq, Repr

/-- A piece's seam record (section 2.5). -/
structure SeamRecord where
  position : Position
  offset   : Nat
deriving DecidableEq, Repr

/-- A piece record (section 2.5). `cut` and `lost` are implied by R148 and R146: where RESTART ended the piece and
how much of a fold was still to be drawn, and the fold point and length of each fold lost in it. -/
structure Piece where
  id         : Nat
  slot       : Option (Fin 8)
  load       : BitVec 8
  gradeIndex : Nat
  cursor     : Nat
  done       : Nat
  plan       : Plan
  beltStart  : Position
  beltEnd    : Position
  span       : Option (Position × Position)
  state      : PieceState
  flags      : PieceFlags
  seam       : Option SeamRecord
  doses      : Option (Nat × Nat)
  verdict    : Verdict
  cut        : Option (Position × Nat)
  lost       : List (Position × Nat)
deriving DecidableEq, Repr

/-- PQ: the order slots, the run list (head first), the piece queue (head first) and the piece id counter. -/
structure PieceQueue where
  slots   : Vector OrderSlot 8
  runList : List (Fin 8)
  pieces  : List Piece
  nextId  : Nat
deriving DecidableEq, Repr

/-! ### Fold Sequencer (chapter 3) -/

/-- Sequencer states (section 3.3). -/
inductive FoldState where
  | idle | forming | starved | held
deriving DecidableEq, Repr

/-- What the infeed draws (section 3.3). -/
inductive ItemKind where
  | lead | land | fold | flat | tail | runOut
deriving DecidableEq, Repr

/-- The overfeed ratio of the fold cursor (R61). -/
inductive Ratio where
  | flat
  | pleat (consumption spacing : Nat)
deriving DecidableEq, Repr

/-- The fold cursor (section 3.3). -/
structure FoldCursor where
  piece      : Option Nat
  item       : ItemKind
  run        : Nat
  pleat      : Nat
  itemStart  : Position
  itemFormed : Position
  boundary   : Position
  ratio      : Ratio
deriving DecidableEq, Repr

/-- FS: sequencer state, fold cursor, formed counter and last infeed command. -/
structure FoldSequencer where
  state      : FoldState
  cursor     : FoldCursor
  formed     : Position
  lastInfeed : Nat
deriving DecidableEq, Repr

/-! ### Position Tracker and Cell List (chapter 4) -/

/-- Encoder record states (section 4.2). -/
inductive EncoderState where
  | unseen | tracking | stale | fault
deriving DecidableEq, Repr

/-- One encoder record (section 4.2); the belt's next boundary stands in `Tracker`. -/
structure EncoderRecord where
  state       : EncoderState
  raw         : BitVec 32
  offset      : BitVec 32
  held        : Position
  lastStamp   : Stamp
  speed       : Nat
  lastArrival : Clock
  watchStart  : Clock
deriving DecidableEq, Repr

/-- PT: both encoder records and the belt record's next boundary. -/
structure Tracker where
  infeed       : EncoderRecord
  belt         : EncoderRecord
  nextBoundary : Position
deriving DecidableEq, Repr

/-- A belt cell (section 4.4). -/
structure BeltCell where
  index     : Nat
  formed    : Position
  piece     : Option Nat
  dose      : Nat
  residue   : Nat
  seam      : Bool
  uncertain : Bool
deriving DecidableEq, Repr

/-! ### Steam zones, dose and the governor (chapters 5 and 6) -/

/-- Zone states (section 5.3). -/
inductive ZoneState where
  | shut | heating | ready | waking | standbySettling | standby
deriving DecidableEq, Repr

/-- Freshness of a half (section 5.1). -/
inductive Freshness where
  | unseen | fresh | out
deriving DecidableEq, Repr

/-- The live part of one half (section 5.1). -/
structure HalfRecord where
  temp        : Option Nat
  fresh       : Freshness
  lastArrival : Clock
  valve       : Nat
  lastSent    : Option Nat
deriving DecidableEq, Repr

/-- The stored part of a zone record (section 5.1). -/
structure ZoneStored where
  start         : Nat
  length        : Nat
  setpoint      : Nat
  standbyPoint  : Nat
  band          : Nat
  fastThreshold : Nat
  stepFast      : Nat
  stepSlow      : Nat
  valveMax      : Nat
  lock          : Bool
  manual        : Bool
  manualUpper   : Nat
  manualLower   : Nat
deriving DecidableEq, Repr

/-- One zone record (section 5.1): the stored part and the live part. -/
structure Zone where
  stored : ZoneStored
  state  : ZoneState
  stale  : Bool
  target : Option Nat
  temp   : Option Nat
  inBand : Nat
  upper  : HalfRecord
  lower  : HalfRecord
deriving DecidableEq, Repr

/-- ZR: the eight zone records, index 0 being zone 1, and for each lock pair whether its lock was engaged when last
judged (implied by "becomes engaged" of R104), index 0 being pair 1-2. -/
structure ZoneRegulators where
  zones : Vector Zone 8
  locks : Vector Bool 4
deriving DecidableEq, Repr

/-- One entry of the CLASS table (R107). -/
structure ClassRecord where
  tbase  : Nat
  dmin   : Nat
  dmax   : Nat
  margin : Nat
  splice : Nat
deriving DecidableEq, Repr

/-- DA: the class table and each zone's last-accrual time (R107, R109). -/
structure DoseAccumulator where
  classes     : Vector ClassRecord 16
  lastAccrual : Vector (Option Clock) 8
deriving DecidableEq, Repr

/-- SG's fields (R118). -/
structure SpeedGovernor where
  belt        : Nat
  vHeat       : Nat
  vInf        : Nat
  governing   : Option Nat
  requirement : Nat
  exitMark    : Option Position
deriving DecidableEq, Repr

/-! ### Supply splice (chapter 7) -/

/-- Unwind states (section 7.1). -/
inductive UnwindState where
  | empty | loaded | active | expired
deriving DecidableEq, Repr

/-- What an unwind's status node reports (R129). -/
inductive UnwindReport where
  | empty | loaded
deriving DecidableEq, Repr

/-- One unwind record (section 7.1). -/
structure UnwindRecord where
  state      : UnwindState
  diameter   : Option Nat
  lastStatus : Option UnwindReport
deriving DecidableEq, Repr

/-- Splicer states (section 7.2). -/
inductive SplicerState where
  | idle | ready | armed | window | firing
deriving DecidableEq, Repr

/-- What the splicer's status node reports (R140). -/
inductive SplicerReport where
  | ready | busy | done
deriving DecidableEq, Repr

/-- A chosen firing position (R136). -/
structure SpliceTarget where
  seam   : Position
  fire   : Position
  forced : Bool
deriving DecidableEq, Repr

/-- The seam in flight (R143). -/
structure SeamFlight where
  seam     : Position
  attached : Option Nat
  reached  : Bool
deriving DecidableEq, Repr

/-- SC: the unwinds, the splicer state, target, seam in flight, firing time and the splicer's last status.
`timeoutTaken` is implied by "taken once for each firing" (R141). -/
structure SpliceController where
  unwindA      : UnwindRecord
  unwindB      : UnwindRecord
  state        : SplicerState
  target       : Option SpliceTarget
  seam         : Option SeamFlight
  firing       : Option Clock
  timeoutTaken : Bool
  lastStatus   : Option SplicerReport
deriving DecidableEq, Repr

/-! ### Take-up (chapter 8) -/

/-- Winder states (section 8.3). -/
inductive WinderState where
  | winding | cutPending | cutting | indexing
deriving DecidableEq, Repr

/-- What the take-up status node reports (R151). -/
inductive TakeUpReport where
  | ready | busy | cutDone | indexed
deriving DecidableEq, Repr

/-- A roll manifest (section 8.2): its roll number, its ids oldest first and its unlisted count. -/
structure Manifest where
  roll     : Nat
  ids      : List Nat
  unlisted : Nat
deriving DecidableEq, Repr

/-- TC's fields (chapter 8). The roll counter is the current manifest's roll number (R152) and is held there.
`timeoutTaken` is implied by "taken once for each entry" (R161). -/
structure TakeUpController where
  winder       : WinderState
  diameter     : Option Nat
  lastStatus   : Option TakeUpReport
  current      : Manifest
  closing      : Option Manifest
  currentPiece : Option Nat
  lastOrder    : Option (Fin 8 × BitVec 8)
  forced       : Bool
  heldOrder    : Bool
  stateTime    : Option Clock
  timeoutTaken : Bool
deriving DecidableEq, Repr

/-! ### Line control (chapter 9) -/

/-- Line states (section 9.1). -/
inductive LineState where
  | stopped | running | hold | stopping | fault
deriving DecidableEq, Repr

/-- Causes of a line fault (section 9.3). -/
inductive LineFault where
  | encoderJump | encoderStale | unwindEmpty | spliceTimeout | cutTimeout
deriving DecidableEq, Repr

/-- The line record's fields (section 9.5). `enables` holds one bit per event flag. -/
structure LineRecord where
  crawl          : Nat
  beltMax        : Nat
  infeedMax      : Nat
  setpoint       : Nat
  spliceDistance : Nat
  reactionMargin : Nat
  seamMargin     : Nat
  spliceHorizon  : Nat
  spliceDiameter : Nat
  forcedDiameter : Nat
  fullDiameter   : Nat
  hardFull       : Nat
  perOrder       : Bool
  knife          : Nat
  fillerLength   : Nat
  fillerClass    : Fin 16
  continuous     : Bool
  depth          : Nat
  pauseOnRestart : Bool
  standbyOnStop  : Bool
  enables        : BitVec 18
deriving DecidableEq, Repr

/-- LC's fields (section 9.1). Bit n - 1 of `further` is cause n (R205). -/
structure LineController where
  line         : LineState
  cause        : Option LineFault
  further      : BitVec 5
  clearPending : Bool
  restCount    : Nat
  record       : LineRecord
  valid        : Bool
deriving DecidableEq, Repr

/-! ### The line ring (chapter 10) -/

/-- The 22 actuator roles (section 10.3); zone index 0 is zone 1. -/
inductive ActRole where
  | blade | infeedDrive | beltDrive
  | valve (zone : Fin 8) (half : Half)
  | splicer | knife | turret
deriving DecidableEq, Repr

/-- The 47 roles a node map entry can bind (section 10.3). -/
inductive Role where
  | encoder (enc : Encoder)
  | probe (zone : Fin 8) (half : Half)
  | unwindStatus (unwind : Unwind)
  | unwindDiameter (unwind : Unwind)
  | splicerStatus
  | takeUpDiameter
  | takeUpStatus
  | act (role : ActRole)
deriving DecidableEq, Repr

/-- A node map entry as its four bytes give it (R183, R194). -/
structure NodeEntry where
  valid   : Bool
  node    : BitVec 6
  channel : Byte
  role    : Byte
  zone    : BitVec 4
  half    : Half
deriving DecidableEq, Repr

/-- The command and arguments of an ACT frame (section 10.10). -/
inductive ActCommand where
  | fold (left right : Nat) (dir : Dir)
  | speed (value : Nat)
  | valve (opening : Nat)
  | splice (unwind : Unwind)
  | cut (roll : Nat)
  | index (roll : Nat)
deriving DecidableEq, Repr

/-- A pending ACT frame: its slot, its placement number and its command (R187). -/
structure ActEntry where
  role      : ActRole
  placement : Nat
  command   : ActCommand
deriving DecidableEq, Repr

/-- The ACT queue: the pending frames, oldest placement number first, and the next placement number (R187). -/
structure ActQueue where
  entries : List ActEntry
  next    : Nat
deriving DecidableEq, Repr

/-- STATUS of a response (R194). -/
inductive ResponseStatus where
  | done | partialClose | busy | refused
deriving DecidableEq, Repr

/-- REASON of a response (R194). -/
inductive Reason where
  | none | state | range | locked | unknown | length | sequence
deriving DecidableEq, Repr

/-- The 18 event flags, in the order of section 10.10. -/
inductive Flag where
  | patternFault | planAdjusted | orderDone | queueFull | foldLost | heatShort | zoneStale | doseUnder | doseOver
  | spliceDone | spliceForced | unwindLow | cutDone | cutForced | lineFault | reportDropped | trackGap | reverse
deriving DecidableEq, Repr

/-- A frame of the REPORT queue, before the arbiter completes it (R190, R191). -/
inductive Report where
  | response (dst req tag : Byte) (status : ResponseStatus) (reason : Reason) (count : Nat) (data : List Byte)
  | event (flag : Flag) (flags : BitVec 18)
  | piece (id : Nat) (slot : Option (Fin 8)) (verdict : Verdict) (doses : Option (Nat × Nat)) (flags : PieceFlags)
      (offset : Option Nat)
  | roll (roll frame frames idCount unlisted : Nat) (ids : List Nat)
deriving DecidableEq, Repr

/-- RP but for its two queues: the reset pin, the address and the rate as strapped (R182), the forward buffer
oldest first (R181), the frame the downstream port last began to send (R192), and the sequence counter. -/
structure RingPort where
  inReset  : Bool
  address  : BitVec 6
  fast     : Bool
  forward  : List (List Byte)
  sending  : Option (List Byte)
  sequence : BitVec 8
deriving DecidableEq, Repr

/-! ### Management (chapter 11) -/

/-- The tables that can be written (section 11.1). -/
inductive Table where
  | pattern | nodeMap | classes | zones | line | orders
deriving DecidableEq, Repr

/-- The open-write record while a write is open (R197). -/
structure OpenWrite where
  source    : Byte
  table     : Table
  tag       : Byte
  requested : Nat
  pointer   : Nat
  stored    : Nat
  lastFrame : Clock
deriving DecidableEq, Repr

/-- MU: the open write, if one is present, and the 18 event flags (R197, R206). -/
structure Management where
  openWrite : Option OpenWrite
  flags     : BitVec 18
deriving DecidableEq, Repr

/-- The state of the part. `pending` is the queue of commands waiting to be taken, first in, first out; the other
fields are the part's. -/
structure State where
  pending : List Instr
  clock   : Clock
  rp      : RingPort
  act     : ActQueue
  report  : List Report
  nm      : Vector NodeEntry 64
  mu      : Management
  px      : Translator
  pq      : PieceQueue
  fs      : FoldSequencer
  pt      : Tracker
  cl      : List BeltCell
  zr      : ZoneRegulators
  da      : DoseAccumulator
  sg      : SpeedGovernor
  sc      : SpliceController
  tc      : TakeUpController
  lc      : LineController
deriving DecidableEq, Repr

/-- Why the part stops. The manual gives the part no stop: every command, whatever its operands, has an effect or
none, so no fault exists and none is raised (safe). -/
inductive Fault where
deriving DecidableEq, Repr

/-- Why a command has no meaning. -/
inductive Refusal where
  /-- Raised by `exec` alone, for a row that has no meaning yet, by its mnemonic (safe: the model stops). No row is
  left so. -/
  | notModelled (mnemonic : String)
deriving DecidableEq, Repr

/-! ### Values after hard reset -/

/-- An invalid lookaside entry (R4). Its other fields are not given: zero (DESIGN CHOICE, assumption 16). -/
def LookEntry.reset : LookEntry := { valid := false, tag := 0, slot := 0, copy := List.replicate 16 0 }

/-- An EMPTY order slot with every field 0 (R25). -/
def OrderSlot.reset : OrderSlot :=
  { state := .empty, dtype := .grade, origin := 0, length := 0, flatLength := 0, gradeIndex := 0, cls := 0,
    requested := 0, done := 0, cursor := 0, load := 0, fault := none }

/-- The fold cursor holding no piece (R54). Its other fields are not given: zero, item LEAD (DESIGN CHOICE,
assumption 17); the ratio is flat (R61). -/
def FoldCursor.none : FoldCursor :=
  { piece := Option.none, item := .lead, run := 0, pleat := 0, itemStart := 0, itemFormed := 0, boundary := 0,
    ratio := .flat }

/-- An encoder record after hard reset (R72). -/
def EncoderRecord.reset : EncoderRecord :=
  { state := .unseen, raw := 0, offset := 0, held := 0, lastStamp := 0, speed := 0, lastArrival := 0,
    watchStart := 0 }

/-- One half after hard reset (R87). -/
def HalfRecord.reset : HalfRecord := { temp := none, fresh := .unseen, lastArrival := 0, valve := 0, lastSent := none }

/-- One zone record after hard reset (R87). -/
def Zone.reset : Zone :=
  { stored := { start := 0, length := 0, setpoint := 0, standbyPoint := 0, band := 0, fastThreshold := 0,
                stepFast := 0, stepSlow := 0, valveMax := 0, lock := false, manual := false, manualUpper := 0,
                manualLower := 0 },
    state := .shut, stale := false, target := none, temp := none, inBand := 0, upper := HalfRecord.reset,
    lower := HalfRecord.reset }

/-- One unwind record after hard reset (R129). -/
def UnwindRecord.reset : UnwindRecord := { state := .empty, diameter := none, lastStatus := none }

/-- The line record's hard reset values (section 9.5). -/
def LineRecord.reset : LineRecord :=
  { crawl := 20, beltMax := 20, infeedMax := 20, setpoint := 0, spliceDistance := 0, reactionMargin := 0,
    seamMargin := 0, spliceHorizon := 0, spliceDiameter := 0, forcedDiameter := 0, fullDiameter := 0, hardFull := 0,
    perOrder := false, knife := 128, fillerLength := 3000, fillerClass := 0, continuous := false, depth := 1,
    pauseOnRestart := false, standbyOnStop := false, enables := 0 }

/-- An invalid node map entry with every field 0 (R183). -/
def NodeEntry.reset : NodeEntry := { valid := false, node := 0, channel := 0, role := 0, zone := 0, half := .upper }

/-- The part as RESET_RELEASE leaves it (R193 and the reset rules of each chapter), with the straps read as
`address` and `fast`, pattern memory holding `mem` while its clear is in progress (R1), and `pending` waiting. -/
def hardReset (address : BitVec 6) (fast : Bool) (mem : List Host.Cell) (pending : List Instr) : State :=
  { pending := pending
    clock := 0
    rp := { inReset := false, address := address, fast := fast, forward := [], sending := none, sequence := 0 }
    act := { entries := [], next := 1 }
    report := []
    nm := Vector.replicate 64 NodeEntry.reset
    mu := { openWrite := none, flags := 0 }
    px := { mem := mem, clearing := true, lookaside := Vector.replicate 32 LookEntry.reset, pointer := 0 }
    pq := { slots := Vector.replicate 8 OrderSlot.reset, runList := [], pieces := [], nextId := 1 }
    fs := { state := .idle, cursor := FoldCursor.none, formed := 0, lastInfeed := 0 }
    pt := { infeed := EncoderRecord.reset, belt := EncoderRecord.reset, nextBoundary := 0 }
    cl := []
    zr := { zones := Vector.replicate 8 Zone.reset, locks := Vector.replicate 4 false }
    da := { classes := Vector.replicate 16 { tbase := 0, dmin := 0, dmax := 0, margin := 0, splice := 0 },
            lastAccrual := Vector.replicate 8 none }
    sg := { belt := 0, vHeat := 0, vInf := 0, governing := none, requirement := 0, exitMark := none }
    sc := { unwindA := UnwindRecord.reset, unwindB := UnwindRecord.reset, state := .idle, target := none, seam := none,
            firing := none, timeoutTaken := false, lastStatus := none }
    tc := { winder := .winding, diameter := none, lastStatus := none,
            current := { roll := 1, ids := [], unlisted := 0 }, closing := none, currentPiece := none,
            lastOrder := none, forced := false, heldOrder := false, stateTime := none, timeoutTaken := false }
    lc := { line := .stopped, cause := none, further := 0, clearPending := false, restCount := 0,
            record := LineRecord.reset, valid := false } }

/-- The part right after hard reset: the pin released, the pattern memory clear in progress (R1). The straps are
outside the part and the manual gives them no value: address 1 and the low rate (DESIGN CHOICE, assumption 3). No
command waits. -/
def State.reset : State := hardReset 1 false [] []

end Sys2Proof.Machine
end

