-- ==== Sys2Proof/Machine/Operands.lean ====
section
/-! DEFINITION. Operand forms: comparing wrapping counts (R71), byte fields of frames and tables (R194), the codes of
the manual's enumerations, the decoders of written table entries, and the CRC (R195). -/
namespace Sys2Proof.Machine

/-! ### Counts that wrap (R71) -/

/-- The signed difference x - y of two positions (R71). -/
def signedDiff (x y : Position) : Int := (x - y).toInt

/-- `x` is at or after `y`, or reaches it (R71). -/
def reaches (x y : Position) : Bool := decide (0 ≤ signedDiff x y)

/-- The later of two positions (R66). -/
def laterPosition (x y : Position) : Position := if reaches x y then x else y

/-- A position advanced by a length (R71). -/
def advance (x : Position) (n : Nat) : Position := x + BitVec.ofNat 32 n

/-- The unsigned distance from `y` up to `x`, for an `x` known to be at or after `y` (R71). -/
def distance (x y : Position) : Nat := (x - y).toNat

/-- The span from `start` to `stop` contains `x`, the end excluded (R71). -/
def spanContains (start stop x : Position) : Bool := decide (distance x start < distance stop start)

/-- The milliseconds from reading `t` to reading `now` (R71). -/
def elapsed (now t : Clock) : Nat := (now - t).toNat

/-- A sample VALUE read as a signed number and limited to 0..limit (R91, R129, R150). -/
def limitValue (value : BitVec 32) (limit : Nat) : Nat := min value.toInt.toNat limit

/-- A status sample's VALUE read as a count. -/
def codeValue (value : BitVec 32) : Nat := value.toNat

/-! ### Byte fields, most significant byte first (R194) -/

/-- The number a list of bytes spells, most significant byte first. -/
def beNat (bs : List Byte) : Nat := bs.foldl (fun n b => n * 256 + b.toNat) 0

/-- The low `n` bytes of `v`, most significant first. -/
def beBytes : Nat → Nat → List Byte
  | 0, _ => []
  | n + 1, v => BitVec.ofNat 8 (v / 256 ^ n) :: beBytes n v

/-- The field of `n` bytes of `bs` from an offset. -/
def field (bs : List Byte) (offset n : Nat) : Nat := beNat ((bs.drop offset).take n)

/-- The byte at an offset. -/
def byteAt (bs : List Byte) (offset : Nat) : Byte := bs.getD offset 0

/-- One bit of the byte at an offset (bit 0 least significant). -/
def bitAt (bs : List Byte) (offset bit : Nat) : Bool := (byteAt bs offset).getLsbD bit

/-- A truth value as a byte with one bit set or clear. -/
def bitByte (bit : Nat) (b : Bool) : Nat := if b then 2 ^ bit else 0

/-- A one-byte value. -/
def byte (n : Nat) : List Byte := beBytes 1 n

/-- A position's four bytes. -/
def positionBytes (x : Position) : List Byte := beBytes 4 x.toNat

/-- The two bytes of an unlisted count; above 65,535 they are the free value of Config (assumption 23). -/
def unlistedBytes (n : Nat) : List Byte :=
  if n < 65536 then beBytes 2 n else beBytes 2 (Config.unlistedWord n).toNat

/-! ### Codes -/

/-- Flag numbers 0..17 (section 10.10). -/
def Flag.number : Flag → Nat
  | .patternFault => 0 | .planAdjusted => 1 | .orderDone => 2 | .queueFull => 3 | .foldLost => 4 | .heatShort => 5
  | .zoneStale => 6 | .doseUnder => 7 | .doseOver => 8 | .spliceDone => 9 | .spliceForced => 10 | .unwindLow => 11
  | .cutDone => 12 | .cutForced => 13 | .lineFault => 14 | .reportDropped => 15 | .trackGap => 16 | .reverse => 17

/-- Zone state codes of the ZONE read (R194). -/
def ZoneState.code : ZoneState → Nat
  | .shut => 0 | .heating => 1 | .ready => 2 | .waking => 3 | .standbySettling => 4 | .standby => 5

/-- Freshness codes (R194). -/
def Freshness.code : Freshness → Nat
  | .unseen => 0 | .fresh => 1 | .out => 2

/-- Designation type codes (R194). -/
def Designation.code : Designation → Nat
  | .grade => 0 | .style => 1 | .panel => 2 | .flat => 3

/-- The designation a two-bit code names (R194). -/
def Designation.ofCode (n : Nat) : Designation :=
  match n % 4 with
  | 0 => .grade
  | 1 => .style
  | 2 => .panel
  | _ => .flat

/-- Order slot state codes (R194). -/
def SlotState.code : SlotState → Nat
  | .empty => 0 | .loaded => 1 | .active => 2 | .done => 3 | .faulted => 4

/-- Fault kind codes (R194). -/
def WalkFault.code : WalkFault → Nat
  | .invalid => 1 | .type => 2 | .range => 3 | .empty => 4 | .limit => 5

/-- Fault level codes (R194). -/
def WalkLevel.code : WalkLevel → Nat
  | .grade => 0 | .style => 1 | .panel => 2 | .plan => 3

/-- Verdict codes (R194). -/
def Verdict.code : Verdict → Nat
  | .good => 0 | .uncertain => 1 | .under => 2 | .over => 3 | .filler => 4

/-- Piece state codes (R204). -/
def PieceState.code : PieceState → Nat
  | .admitted => 0 | .forming => 1 | .formed => 2

/-- FS state codes (R205). -/
def FoldState.code : FoldState → Nat
  | .idle => 0 | .forming => 1 | .starved => 2 | .held => 3

/-- Encoder state codes (R205). -/
def EncoderState.code : EncoderState → Nat
  | .unseen => 0 | .tracking => 1 | .stale => 2 | .fault => 3

/-- Splicer state codes (R205). -/
def SplicerState.code : SplicerState → Nat
  | .idle => 0 | .ready => 1 | .armed => 2 | .window => 3 | .firing => 4

/-- Unwind state codes (R205). -/
def UnwindState.code : UnwindState → Nat
  | .empty => 0 | .loaded => 1 | .active => 2 | .expired => 3

/-- Unwind report codes, as the samples report them (R129, R205). -/
def UnwindReport.code : UnwindReport → Nat
  | .empty => 0 | .loaded => 1

/-- Splicer report codes (R140, R205). -/
def SplicerReport.code : SplicerReport → Nat
  | .ready => 0 | .busy => 1 | .done => 2

/-- Take-up report codes (R151, R205). -/
def TakeUpReport.code : TakeUpReport → Nat
  | .ready => 0 | .busy => 1 | .cutDone => 2 | .indexed => 3

/-- Winder state codes (R194). -/
def WinderState.code : WinderState → Nat
  | .winding => 0 | .cutPending => 1 | .cutting => 2 | .indexing => 3

/-- Line state codes (note 1 of R196). -/
def LineState.code : LineState → Nat
  | .stopped => 0 | .running => 1 | .hold => 2 | .stopping => 3 | .fault => 4

/-- Fault cause codes (note 1 of R196); NONE is 0. -/
def LineFault.code : LineFault → Nat
  | .encoderJump => 1 | .encoderStale => 2 | .unwindEmpty => 3 | .spliceTimeout => 4 | .cutTimeout => 5

/-- STATUS codes of a response (R194). -/
def ResponseStatus.code : ResponseStatus → Nat
  | .done => 0 | .partialClose => 1 | .busy => 2 | .refused => 3

/-- REASON codes of a response (R194). -/
def Reason.code : Reason → Nat
  | .none => 0 | .state => 1 | .range => 2 | .locked => 3 | .unknown => 4 | .length => 5 | .sequence => 6

/-- Direction codes (R194). -/
def Dir.code : Dir → Nat
  | .left => 0 | .right => 1

/-- Run kind codes (R194). -/
def RunKind.code : RunKind → Nat
  | .knife => 1 | .box => 2 | .accordion => 3

/-- The kind a two-bit code names; 0, the fourth code, names none (R194). -/
def RunKind.ofCode (n : Nat) : Option RunKind :=
  match n % 4 with
  | 1 => some .knife
  | 2 => some .box
  | 3 => some .accordion
  | _ => none

/-- Half codes of a node map entry (R194). -/
def halfCode : Half → Nat
  | .upper => 0 | .lower => 1

/-- The opposite direction (R23, R52). -/
def Dir.inverted : Dir → Dir
  | .left => .right
  | .right => .left

/-- The piece flags as the byte of a PIECE notice (R194). -/
def PieceFlags.code (f : PieceFlags) : Nat :=
  bitByte 0 f.filler + bitByte 1 f.short + bitByte 2 f.adjusted + bitByte 3 f.spliced + bitByte 4 f.spliceForced +
    bitByte 5 f.cutForced + bitByte 6 f.split + bitByte 7 f.foldLost

/-- An absent value reads as `dflt` (R194, R205). -/
def optNat (o : Option Nat) (dflt : Nat) : Nat := o.getD dflt

/-! ### Roles (section 10.3, role codes of section 10.10) -/

/-- The zone a four-bit zone field names, 1..8 (R184). -/
def zoneOfField (z : BitVec 4) : Option (Fin 8) :=
  if h : 1 ≤ z.toNat ∧ z.toNat ≤ 8 then some ⟨z.toNat - 1, by omega⟩ else none

/-- The role a role code, zone and half name, if any (R184, R194). -/
def roleOf (code : Byte) (zone : BitVec 4) (half : Half) : Option Role :=
  match code.toNat with
  | 1 => some (.encoder .infeed)
  | 2 => some (.encoder .belt)
  | 3 => (zoneOfField zone).map fun z => .probe z half
  | 4 => some (.unwindStatus .a)
  | 5 => some (.unwindDiameter .a)
  | 6 => some (.unwindStatus .b)
  | 7 => some (.unwindDiameter .b)
  | 8 => some .splicerStatus
  | 9 => some .takeUpDiameter
  | 10 => some .takeUpStatus
  | 16 => some (.act .blade)
  | 17 => some (.act .infeedDrive)
  | 18 => some (.act .beltDrive)
  | 19 => (zoneOfField zone).map fun z => .act (.valve z half)
  | 20 => some (.act .splicer)
  | 21 => some (.act .knife)
  | 22 => some (.act .turret)
  | _ => none

/-- The role code, and the zone and half byte, by which a START refusal names a role (note 2 of R196). -/
def Role.codes : Role → Nat × Nat
  | .encoder .infeed => (1, 0)
  | .encoder .belt => (2, 0)
  | .probe z h => (3, z.val + 1 + 16 * halfCode h)
  | .unwindStatus .a => (4, 0)
  | .unwindDiameter .a => (5, 0)
  | .unwindStatus .b => (6, 0)
  | .unwindDiameter .b => (7, 0)
  | .splicerStatus => (8, 0)
  | .takeUpDiameter => (9, 0)
  | .takeUpStatus => (10, 0)
  | .act .blade => (16, 0)
  | .act .infeedDrive => (17, 0)
  | .act .beltDrive => (18, 0)
  | .act (.valve z h) => (19, z.val + 1 + 16 * halfCode h)
  | .act .splicer => (20, 0)
  | .act .knife => (21, 0)
  | .act .turret => (22, 0)

/-- The role a node map entry binds; an invalid entry binds nothing (R183). -/
def NodeEntry.binds (e : NodeEntry) : Option Role := if e.valid then roleOf e.role e.zone e.half else none

/-- A node map entry from its four bytes; unused bits are ignored (R194). -/
def NodeEntry.ofBytes (bs : List Byte) : NodeEntry :=
  { valid := bitAt bs 0 7
    node := (byteAt bs 0).setWidth 6
    channel := byteAt bs 1
    role := byteAt bs 2
    zone := (byteAt bs 3).setWidth 4
    half := if bitAt bs 3 4 then .lower else .upper }

/-- The four bytes a node map entry reads as (R183, R194). -/
def NodeEntry.bytes (e : NodeEntry) : List Byte :=
  byte (bitByte 7 e.valid + e.node.toNat) ++ [e.channel, e.role] ++ byte (e.zone.toNat + 16 * halfCode e.half)

/-! ### Written table entries (section 10.10) -/

/-- A CLASS entry's fields, unchecked. -/
def ClassRecord.ofBytes (bs : List Byte) : ClassRecord :=
  { tbase := field bs 0 2, dmin := field bs 2 3, dmax := field bs 5 3, margin := field bs 8 2, splice := field bs 10 2 }

/-- A CLASS entry as read (R107). -/
def ClassRecord.bytes (c : ClassRecord) : List Byte :=
  beBytes 2 c.tbase ++ beBytes 3 c.dmin ++ beBytes 3 c.dmax ++ beBytes 2 c.margin ++ beBytes 2 c.splice

/-- A ZONE entry's fields, unchecked. -/
def ZoneStored.ofBytes (bs : List Byte) : ZoneStored :=
  { start := field bs 0 1, length := field bs 1 1, setpoint := field bs 2 2, standbyPoint := field bs 4 2
    band := field bs 6 1, fastThreshold := field bs 7 2, stepFast := field bs 9 2, stepSlow := field bs 11 2
    valveMax := field bs 13 2, lock := bitAt bs 15 0, manual := bitAt bs 15 1
    manualUpper := field bs 16 2, manualLower := field bs 18 2 }

/-- A ZONE entry's stored part as read (R90). -/
def ZoneStored.bytes (z : ZoneStored) : List Byte :=
  byte z.start ++ byte z.length ++ beBytes 2 z.setpoint ++ beBytes 2 z.standbyPoint ++ byte z.band ++
    beBytes 2 z.fastThreshold ++ beBytes 2 z.stepFast ++ beBytes 2 z.stepSlow ++ beBytes 2 z.valveMax ++
    byte (bitByte 0 z.lock + bitByte 1 z.manual) ++ beBytes 2 z.manualUpper ++ beBytes 2 z.manualLower

/-- A zone's state byte: the state code with the STALE mark in bit 7 (R194). -/
def Zone.stateByte (z : Zone) : Nat := z.state.code + bitByte 7 z.stale

/-- One half as a ZONE read gives it (R90). -/
def HalfRecord.bytes (h : HalfRecord) : List Byte :=
  beBytes 2 (optNat h.temp 0xFFFF) ++ byte h.fresh.code ++ beBytes 2 h.valve ++ beBytes 2 (optNat h.lastSent 0xFFFF)

/-- A zone record as read (R90). -/
def Zone.bytes (z : Zone) : List Byte :=
  z.stored.bytes ++ byte z.stateByte ++ beBytes 2 (optNat z.target 0xFFFF) ++ beBytes 2 (optNat z.temp 0xFFFF) ++
    byte z.inBand ++ z.upper.bytes ++ z.lower.bytes

/-- The fields of a LINE entry, unchecked; a filler class above 15 is kept apart in the second component. -/
def LineRecord.ofBytes (bs : List Byte) : LineRecord × Nat :=
  ({ crawl := field bs 0 2, beltMax := field bs 2 2, infeedMax := field bs 4 2, setpoint := field bs 6 2
     spliceDistance := field bs 8 3, reactionMargin := field bs 11 2, seamMargin := field bs 13 2
     spliceHorizon := field bs 15 3, spliceDiameter := field bs 18 2, forcedDiameter := field bs 20 2
     fullDiameter := field bs 22 2, hardFull := field bs 24 2, knife := field bs 26 1, fillerLength := field bs 27 2
     fillerClass := Fin.ofNat 16 (field bs 29 1), depth := field bs 30 1
     perOrder := bitAt bs 31 0, continuous := bitAt bs 31 1, pauseOnRestart := bitAt bs 31 2
     standbyOnStop := bitAt bs 31 3, enables := BitVec.ofNat 18 (field bs 32 3) }, field bs 29 1)

/-- The line record as read, its valid mark last (R176). -/
def LineRecord.bytes (r : LineRecord) (valid : Bool) : List Byte :=
  beBytes 2 r.crawl ++ beBytes 2 r.beltMax ++ beBytes 2 r.infeedMax ++ beBytes 2 r.setpoint ++
    beBytes 3 r.spliceDistance ++ beBytes 2 r.reactionMargin ++ beBytes 2 r.seamMargin ++ beBytes 3 r.spliceHorizon ++
    beBytes 2 r.spliceDiameter ++ beBytes 2 r.forcedDiameter ++ beBytes 2 r.fullDiameter ++ beBytes 2 r.hardFull ++
    byte r.knife ++ beBytes 2 r.fillerLength ++ byte r.fillerClass.val ++ byte r.depth ++
    byte (bitByte 0 r.perOrder + bitByte 1 r.continuous + bitByte 2 r.pauseOnRestart + bitByte 3 r.standbyOnStop) ++
    beBytes 3 r.enables.toNat ++ byte (bitByte 0 valid)

/-- An ORDER entry's fields, unchecked, as a LOADED slot with no fault record and load number 0 (R26). -/
def OrderSlot.ofBytes (bs : List Byte) : OrderSlot :=
  { state := .loaded, dtype := Designation.ofCode (field bs 0 1), origin := field bs 1 2 % 4096
    length := field bs 3 1 % 128, flatLength := field bs 4 3, gradeIndex := field bs 7 1 % 32
    cls := Fin.ofNat 16 (field bs 8 1), requested := field bs 9 2, done := field bs 11 2
    cursor := field bs 13 1 % 64, load := 0, fault := none }

/-- An order slot as read (R27). An EMPTY slot's fields read 0; without a fault record the fault kind reads 0 and the
record's other bytes are free values (assumption 36). -/
def OrderSlot.bytes (o : OrderSlot) : List Byte :=
  byte o.dtype.code ++ beBytes 2 o.origin ++ byte o.length ++ beBytes 3 o.flatLength ++ byte o.gradeIndex ++
    byte o.cls.val ++ beBytes 2 o.requested ++ beBytes 2 o.done ++ byte o.cursor ++ byte o.state.code ++
    byte o.load.toNat ++
    match o.fault with
    | none =>
      if o.state = .empty then [0, 0, 0, 0, 0]
      else [0, Config.absentByte 0, Config.absentByte 1, Config.absentByte 2, Config.absentByte 3]
    | some f => byte f.kind.code ++ beBytes 2 f.entry ++ byte f.level.code ++ byte f.cursor

/-- The two bytes of a run copy's lead; above 65,535, where the manual gives no reading of it, they are the free value of
Config (DESIGN CHOICE, assumption 54). -/
def leadBytes (n : Nat) : List Byte := if n < 65536 then beBytes 2 n else beBytes 2 (Config.leadWord n).toNat

/-- A run copy's 13-byte run block (R194); the lead of a FLAT plan (R15) may be above what its two bytes hold
(DESIGN CHOICE, assumption 54). -/
def Run.block (r : Run) : List Byte :=
  beBytes 2 r.count ++ beBytes 2 r.spacing ++ beBytes 2 r.depthStart ++ beBytes 2 r.depthEnd ++ beBytes 2 r.taper ++
    byte (r.kind.code + 4 * r.dir.code) ++ leadBytes r.lead

/-- The table a code names (section 11.1). -/
def Table.ofCode (n : Nat) : Option Table :=
  match n with
  | 1 => some .pattern
  | 2 => some .nodeMap
  | 3 => some .classes
  | 4 => some .zones
  | 5 => some .line
  | 6 => some .orders
  | _ => none

/-- A table's code (section 11.1). -/
def Table.code : Table → Nat
  | .pattern => 1 | .nodeMap => 2 | .classes => 3 | .zones => 4 | .line => 5 | .orders => 6

/-- A table's record count (section 11.1). -/
def Table.records : Table → Nat
  | .pattern => 4096 | .nodeMap => 64 | .classes => 16 | .zones => 8 | .line => 1 | .orders => 8

/-- A table's written entry size (section 11.1). -/
def Table.size : Table → Nat
  | .pattern => 16 | .nodeMap => 4 | .classes => 12 | .zones => 20 | .line => 35 | .orders => 14

/-! ### Frame check (R195) -/

/-- One data bit through the CRC register. -/
def crcBit (reg : BitVec 16) (bit : Bool) : BitVec 16 :=
  let shifted := reg <<< (1 : Nat)
  if reg.getLsbD 15 = bit then shifted else shifted ^^^ 0x1021

/-- One byte through the CRC register, most significant bit first. -/
def crcByte (reg : BitVec 16) (b : Byte) : BitVec 16 :=
  [7, 6, 5, 4, 3, 2, 1, 0].foldl (fun r i => crcBit r (b.getLsbD i)) reg

/-- The CRC of a byte sequence (R195). -/
def crc (bs : List Byte) : BitVec 16 := bs.foldl crcByte 0xFFFF

end Sys2Proof.Machine
end

