-- ==== Sys2Proof/Machine/Flags.lean ====
section
/-! DEFINITION. The REPORT queue and the event flags: placing a frame (R190) and raising a flag (R206). -/
namespace Sys2Proof.Machine

/-- The flag word with one flag set. -/
def flagBit (f : Flag) : BitVec 18 := BitVec.twoPow 18 f.number

/-- A flag holds 1. -/
def flagHeld (f : Flag) (s : State) : Bool := s.mu.flags.getLsbD f.number

/-- A flag's notice enable is set in the line record (R206). -/
def flagEnabled (f : Flag) (s : State) : Bool := s.lc.record.enables.getLsbD f.number

/-- A flag set to 1, with no notice. -/
def setFlag (f : Flag) (s : State) : State := { s with mu.flags := s.mu.flags ||| flagBit f }

/-- A REPORT queue with one more frame: a full one first loses its oldest (R190). -/
def appendReport (r : Report) (q : List Report) : List Report :=
  if q.length < Config.reportLimit then q ++ [r] else q.tail ++ [r]

/-- The frame is appended, with no flag raised. -/
def pushReport (r : Report) (s : State) : State := { s with report := appendReport r s.report }

/-- A frame placed in the REPORT queue (R190). A full queue loses its oldest frame and REPORT_DROPPED is raised; its
own EVENT notice is placed in turn, and the flag is then already 1. -/
def placeReport (r : Report) (s : State) : State :=
  if s.report.length < Config.reportLimit then pushReport r s
  else if flagHeld .reportDropped s then pushReport r s
  else
    let t := setFlag .reportDropped (pushReport r s)
    if flagEnabled .reportDropped t then pushReport (.event .reportDropped t.mu.flags) t else t

/-- A flag raised (R206): one that holds 0 becomes 1 and queues its EVENT notice if its enable is set. -/
def raise (f : Flag) (s : State) : State :=
  if flagHeld f s then s
  else
    let t := setFlag f s
    if flagEnabled f t then placeReport (.event f t.mu.flags) t else t

/-- A flag raised when a condition holds. -/
def raiseIf (c : Bool) (f : Flag) (s : State) : State := if c then raise f s else s

/-- A response placed in the REPORT queue (R196). -/
def respond (code : Nat) (rq : Request) (status : ResponseStatus) (reason : Reason) (count : Nat) (data : List Byte)
    (s : State) : State :=
  placeReport (.response rq.src (BitVec.ofNat 8 code) rq.tag status reason count data) s

/-- A DONE response with reason none (R196). -/
def respondDone (code : Nat) (rq : Request) (count : Nat) (data : List Byte) (s : State) : State :=
  respond code rq .done .none count data s

/-- A REFUSED response: COUNT 0 and no data (R196). -/
def refuse (code : Nat) (rq : Request) (reason : Reason) (s : State) : State :=
  respond code rq .refused reason 0 [] s

end Sys2Proof.Machine
end

