-- ==== Sys2Proof/Machine/Ops.lean ====
section
/-! DEFINITION. The named operations the blocks share: pattern memory, the ACT queue, the piece queue's records, the
zone records, the node map's lookups, and the conditions under which the ring hands the part anything. -/
namespace Sys2Proof.Machine

/-! ### Pattern memory (section 1.1)

Byte-addressed: entry `i` stands at addresses 16 i to 16 i + 15. An unlisted address reads as 0, the content R1's
clear leaves. The canonical form is strictly rising addresses and no listed 0. -/

/-- One byte of pattern memory. -/
def Memory.read : List Host.Cell → Nat → Byte
  | [], _ => 0
  | (b, v) :: rest, a => if a = b then v else Memory.read rest a

/-- One byte written, keeping the canonical form: writing 0 removes the entry. -/
def Memory.write : List Host.Cell → Nat → Byte → List Host.Cell
  | [], a, v => if v = 0 then [] else [(a, v)]
  | (b, w) :: rest, a, v =>
    if a < b then (if v = 0 then (b, w) :: rest else (a, v) :: (b, w) :: rest)
    else if a = b then (if v = 0 then rest else (a, v) :: rest)
    else (b, w) :: Memory.write rest a v

/-- Consecutive bytes written from an address upward. -/
def Memory.writeBytes : List Host.Cell → Nat → List Byte → List Host.Cell
  | m, _, [] => m
  | m, a, v :: vs => Memory.writeBytes (Memory.write m a v) (a + 1) vs

/-- The canonical form of a memory whose addresses all lie at or above `low` and below `high`. -/
def Memory.wfFrom (low high : Nat) : List Host.Cell → Bool
  | [] => true
  | (a, v) :: rest => decide (low ≤ a) && decide (a < high) && decide (v ≠ 0) && Memory.wfFrom (a + 1) high rest

/-- The canonical form of pattern memory: 4096 entries of 16 bytes. -/
def Memory.wf (m : List Host.Cell) : Bool := Memory.wfFrom 0 (Config.patternEntries * Config.entryBytes) m

/-- The 16 bytes of pattern entry `i` (R3, R5). -/
def readEntry (m : List Host.Cell) (i : Nat) : List Byte :=
  (List.range Config.entryBytes).map fun k => Memory.read m (Config.entryBytes * i + k)

/-- Pattern entry `i` replaced by 16 bytes (R2). -/
def writeEntry (m : List Host.Cell) (i : Nat) (bs : List Byte) : List Host.Cell :=
  Memory.writeBytes m (Config.entryBytes * i) (bs.take Config.entryBytes)

/-! ### The ACT queue (section 10.5) -/

/-- A slot's pending frame replaced, keeping its placement number (R187). -/
def replaceAct (role : ActRole) (cmd : ActCommand) (q : ActQueue) : ActQueue :=
  { q with entries := q.entries.map fun e => if e.role = role then { e with command := cmd } else e }

/-- A frame given the next placement number (R187). -/
def appendAct (role : ActRole) (cmd : ActCommand) (q : ActQueue) : ActQueue :=
  { entries := q.entries ++ [{ role := role, placement := q.next, command := cmd }], next := q.next + 1 }

/-- A slot holds a pending frame. -/
def actPending (role : ActRole) (q : ActQueue) : Bool := q.entries.any fun e => decide (e.role = role)

/-- A frame placed in a slot other than the blade's (R187). -/
def placeAct (role : ActRole) (cmd : ActCommand) (s : State) : State :=
  { s with act := if actPending role s.act then replaceAct role cmd s.act else appendAct role cmd s.act }

/-- How many FOLD frames the blade slot holds (R60). -/
def bladeCount (q : ActQueue) : Nat := (q.entries.filter fun e => decide (e.role = .blade)).length

/-- A FOLD appended to the blade slot (R60). -/
def placeFold (left right : Nat) (dir : Dir) (s : State) : State :=
  { s with act := appendAct .blade (.fold left right dir) s.act }

/-- A slot's frames discarded unsent (R189). -/
def discardAct (role : ActRole) (s : State) : State :=
  { s with act.entries := s.act.entries.filter fun e => !decide (e.role = role) }

/-! ### Pieces (section 2.5) -/

/-- The queued piece of an id. -/
def findPiece (id : Nat) (s : State) : Option Piece := s.pq.pieces.find? fun p => decide (p.id = id)

/-- The piece record of an id changed. -/
def modifyPiece (id : Nat) (f : Piece → Piece) (s : State) : State :=
  { s with pq.pieces := s.pq.pieces.map fun p => if p.id = id then f p else p }

/-- How many ADMITTED pieces wait (R33). -/
def admittedCount (s : State) : Nat := (s.pq.pieces.filter fun p => decide (p.state = .admitted)).length

/-- A piece from an order slot, not filler (R152, R153). -/
def Piece.isPanel (p : Piece) : Bool := p.slot.isSome

/-- The formed position of a piece's seam (R82). -/
def Piece.seamFormed (p : Piece) : Option Position := p.seam.map fun r => advance p.beltStart r.offset

/-- One order slot changed. -/
def modifySlot (i : Fin 8) (f : OrderSlot → OrderSlot) (s : State) : State :=
  { s with pq.slots := s.pq.slots.set i (f s.pq.slots[i]) }

/-! ### Zones (section 5.1) -/

/-- A zone is enabled when its stored length is not 0 (R87). -/
def Zone.enabled (z : Zone) : Bool := decide (z.stored.length ≠ 0)

/-- One zone record changed. -/
def modifyZone (z : Fin 8) (f : Zone → Zone) (s : State) : State :=
  { s with zr.zones := s.zr.zones.set z (f s.zr.zones[z]) }

/-- A half of a zone. -/
def Zone.half (z : Zone) : Half → HalfRecord
  | .upper => z.upper
  | .lower => z.lower

/-- A half of a zone replaced. -/
def Zone.setHalf (z : Zone) (h : Half) (r : HalfRecord) : Zone :=
  match h with
  | .upper => { z with upper := r }
  | .lower => { z with lower := r }

/-- A cell index lies in a zone (R83). -/
def Zone.covers (z : Zone) (index : Nat) : Bool :=
  z.enabled && decide (z.stored.start ≤ index) && decide (index < z.stored.start + z.stored.length)

/-- The zone indices, zone 1 first. -/
def zoneIndices : List (Fin 8) := [0, 1, 2, 3, 4, 5, 6, 7]

/-- The highest start cell plus length over the enabled zones, or 0 (R120). -/
def lastZoneEnd (s : State) : Nat :=
  zoneIndices.foldl (fun m z => if s.zr.zones[z].enabled then max m (s.zr.zones[z].stored.start + s.zr.zones[z].stored.length) else m) 0

/-- The zone a cell index lies in, if any; enabled zones do not overlap (R83, R89). -/
def zoneOfCell (index : Nat) (s : State) : Option (Fin 8) := zoneIndices.find? fun z => s.zr.zones[z].covers index

/-! ### The node map (section 10.3) -/

/-- The valid entry that binds a role (R188). -/
def bindingOf (role : Role) (s : State) : Option NodeEntry :=
  s.nm.toList.find? fun e => decide (e.binds = some role)

/-- The valid entry a (node address, channel) pair meets (R186). -/
def entryAt (node channel : Byte) (s : State) : Option NodeEntry :=
  s.nm.toList.find? fun e => e.valid && decide (e.node.setWidth 8 = node) && decide (e.channel = channel)

/-! ### What reaches the part -/

/-- The part's own address as a frame carries it; 0 leaves the part passive (R182). -/
def ownAddress (s : State) : Byte := s.rp.address.setWidth 8

/-- RP hands requests and samples on: the reset pin is not asserted (R193) and the address is not 0 (R182). -/
def online (s : State) : Bool := !s.rp.inReset && decide (s.rp.address ≠ 0)

/-- The part's clock read (R71, assumption 1). -/
def setClock (t : Clock) (s : State) : State := { s with clock := t }

/-- A step of RP's owners, taken at a clock reading, when the ring hands it on; otherwise nothing happens
(assumption 7). -/
def whenOnline (t : Clock) (f : State → State) (s : State) : State :=
  if online s then f (setClock t s) else s

/-- A step of one of the part's own timers, taken at a clock reading, unless the part is held in reset
(assumption 7). -/
def whenRunning (t : Clock) (f : State → State) (s : State) : State :=
  if s.rp.inReset then s else f (setClock t s)

end Sys2Proof.Machine
end

