-- ==== Sys2Proof/Machine/Plan.lean ====
section
/-! DEFINITION. PX: pattern entries, the lookaside, the admission walk, and the fold plan it yields (chapter 1), with
the pleat arithmetic and the plan order of its items (sections 1.7 and 3.1). -/
namespace Sys2Proof.Machine

/-! ### Pleat arithmetic (section 3.1) -/

/-- Left depth of stored pleat `k` (R50). -/
def leftDepth (r : Run) (k : Nat) : Nat :=
  if r.count ≤ 1 then r.depthStart
  else ((r.depthStart : Int) + Int.tdiv (((r.depthEnd : Int) - r.depthStart) * k) ((r.count : Int) - 1)).toNat

/-- Right depth of stored pleat `k`: the left depth scaled by the taper, rounded half up (R50). -/
def rightDepth (r : Run) (k : Nat) : Nat := (leftDepth r k * r.taper + 500) / 1000

/-- The fabric a fold takes. -/
def foldLength (r : Run) (k : Nat) : Nat := leftDepth r k + rightDepth r k

/-- Infeed consumption of stored pleat `k` (R51). -/
def consumption (r : Run) (k : Nat) : Nat := r.spacing + foldLength r k

/-- Fold direction of stored pleat `k` (R52). -/
def pleatDir (r : Run) (k : Nat) : Dir :=
  match r.kind with
  | .knife => r.dir
  | .accordion => if k % 2 = 0 then r.dir else r.dir.inverted
  | .box => if k % 4 = 0 ∨ k % 4 = 3 then r.dir else r.dir.inverted

/-- Infeed length of a run (R20). -/
def runInfeed (r : Run) : Nat := r.lead + ((List.range r.count).map (consumption r)).sum

/-- Belt length of a run (R20). -/
def runBelt (r : Run) : Nat := if r.flat then runInfeed r else r.lead + r.count * r.spacing

/-- The largest consumption over a run's pleats (R124). -/
def largestConsumption (r : Run) : Nat := ((List.range r.count).map (consumption r)).foldl max 0

/-! ### Plan order (R23, R53) -/

/-- One stretch of infeed of a piece in plan order: its place in the plan, its infeed length, and for a land or a
fold its pleat's spacing, depths and laid direction. -/
structure PlanItem where
  kind    : ItemKind
  run     : Nat
  pleat   : Nat
  length  : Nat
  spacing : Nat
  left    : Nat
  right   : Nat
  dir     : Dir
deriving DecidableEq, Repr

/-- An item with no fold: a lead, a flat pleat, the tail or a run-out. -/
def flatItem (kind : ItemKind) (run pleat length : Nat) : PlanItem :=
  { kind := kind, run := run, pleat := pleat, length := length, spacing := 0, left := 0, right := 0, dir := .left }

/-- The items of one pleat in plan order: pleat `k` of the run at position `i`, mirrored or not (R23, R51). -/
def pleatItems (mirror : Bool) (i : Nat) (r : Run) (k : Nat) : List PlanItem :=
  let stored := if mirror then r.count - 1 - k else k
  if r.flat then [flatItem .flat i k (consumption r stored)]
  else
    let dir := if mirror then (pleatDir r stored).inverted else pleatDir r stored
    let land : PlanItem :=
      { kind := .land, run := i, pleat := k, length := r.spacing, spacing := r.spacing, left := leftDepth r stored
        right := rightDepth r stored, dir := dir }
    [land, { land with kind := .fold, length := foldLength r stored }]

/-- The items of the run at position `i`: its lead, if it occupies any infeed, then its pleats (R23). A lead has no
pleat; its item holds pleat 0 (DESIGN CHOICE, assumption 17). -/
def runItems (mirror : Bool) (i : Nat) (r : Run) : List PlanItem :=
  (if r.lead = 0 then [] else [flatItem .lead i 0 r.lead]) ++ (List.range r.count).flatMap (pleatItems mirror i r)

/-- The runs in plan order: last to first when mirrored (R23). -/
def planRuns (p : Plan) : List Run := if p.mirror then p.runs.reverse else p.runs

/-- The items of a list of runs, the first at position `i`. -/
def runsItems (mirror : Bool) : Nat → List Run → List PlanItem
  | _, [] => []
  | i, r :: rs => runItems mirror i r ++ runsItems mirror (i + 1) rs

/-- The items of a plan in plan order, the tail last (R23). Leads and tails of zero length are passed over. The tail has
no run and no pleat; its item holds 0 in both (DESIGN CHOICE, assumption 17). -/
def planItems (p : Plan) : List PlanItem :=
  runsItems p.mirror 0 (planRuns p) ++ if p.tail = 0 then [] else [flatItem .tail 0 0 p.tail]

/-- The ratio an item that follows a boundary gives the fold cursor (R61). -/
def itemRatio (it : PlanItem) : Ratio :=
  match it.kind with
  | .land => .pleat (it.spacing + it.left + it.right) it.spacing
  | _ => .flat

/-- The items after the one the cursor names. -/
def itemsAfter (p : Plan) (kind : ItemKind) (run pleat : Nat) : List PlanItem :=
  ((planItems p).dropWhile fun it => !(decide (it.kind = kind) && decide (it.run = run) && decide (it.pleat = pleat))).tail

/-! ### Pattern entries (section 1.1, formats of section 10.10) -/

/-- The kinds a pattern entry's KIND field names; the fourth code names none. -/
inductive EntryKind where
  | grade | panel | run
deriving DecidableEq, Repr

/-- VALID of a pattern entry. -/
def entryValid (e : List Byte) : Bool := bitAt e 0 7

/-- KIND of a pattern entry. -/
def entryKind (e : List Byte) : Option EntryKind :=
  match field e 0 1 / 32 % 4 with
  | 1 => some .grade
  | 2 => some .panel
  | 3 => some .run
  | _ => none

/-- FLAT of a pattern entry. -/
def entryFlat (e : List Byte) : Bool := bitAt e 0 4

/-- Style origin of a grade entry. -/
def gradeOrigin (e : List Byte) : Nat := field e 1 2 % 4096
/-- Style length of a grade entry. -/
def gradeLength (e : List Byte) : Nat := field e 3 1 % 128
/-- The class a grade entry carries, if any. -/
def gradeClass (e : List Byte) : Option (Fin 16) := if bitAt e 4 7 then some (Fin.ofNat 16 (field e 4 1)) else none

/-- MIRROR of a panel entry. -/
def panelMirror (e : List Byte) : Bool := bitAt e 1 7
/-- UNIFORM of a panel entry. -/
def panelUniform (e : List Byte) : Bool := bitAt e 1 6
/-- The class a panel entry carries, if any. -/
def panelClass (e : List Byte) : Option (Fin 16) := if bitAt e 1 5 then some (Fin.ofNat 16 (field e 1 1)) else none
/-- Run origin of a panel entry. -/
def panelRunOrigin (e : List Byte) : Nat := field e 2 2 % 4096
/-- Run count of a panel entry. -/
def panelRunCount (e : List Byte) : Nat := field e 4 1 % 16

/-- A run block as stored, its kind perhaps the fourth code; `flat` is the run entry's own FLAT. -/
structure StoredRun where
  count      : Nat
  spacing    : Nat
  depthStart : Nat
  depthEnd   : Nat
  taper      : Nat
  kind       : Option RunKind
  dir        : Dir
  lead       : Nat
  flat       : Bool
deriving DecidableEq, Repr

/-- The run block at an offset of an entry (R194). -/
def storedRun (e : List Byte) (at0 : Nat) (flat : Bool) : StoredRun :=
  { count := field e at0 2 % 1024, spacing := field e (at0 + 2) 2 % 1024, depthStart := field e (at0 + 4) 2 % 4096
    depthEnd := field e (at0 + 6) 2 % 4096, taper := field e (at0 + 8) 2 % 1024
    kind := RunKind.ofCode (field e (at0 + 10) 1), dir := if bitAt e (at0 + 10) 2 then .right else .left
    lead := field e (at0 + 11) 2, flat := flat }

/-- The bits of a run block that its fields use (R194). -/
def runMask : List Byte := [0x03, 0xFF, 0x03, 0xFF, 0x0F, 0xFF, 0x0F, 0xFF, 0x03, 0xFF, 0x07, 0xFF, 0xFF]

/-- The bits of a pattern entry that the layout of its KIND uses (R194). The fourth code has no layout: all of its bytes
1..15 count as used (assumption 35). -/
def entryMask (e : List Byte) : List Byte :=
  match entryKind e with
  | some .grade => [0xF0, 0x0F, 0xFF, 0x7F, 0x8F] ++ List.replicate 11 0
  | some .panel =>
    if panelUniform e then [0xF0, 0xEF] ++ runMask ++ [0]
    else [0xF0, 0xEF, 0x0F, 0xFF, 0x0F] ++ List.replicate 11 0
  | some .run => [0xF0] ++ runMask ++ [0, 0]
  | none => 0xF0 :: List.replicate 15 0xFF

/-- A pattern entry as it is stored: its fields exactly as sent (R2), its unused bits 0 (R194). -/
def cleanEntry (e : List Byte) : List Byte := List.zipWith (fun a b => a &&& b) e (entryMask e)

/-! ### The lookaside (section 1.2) -/

/-- The valid lookaside entry that holds an index (R5). -/
def lookasideHit (px : Translator) (index : Nat) : Option LookEntry :=
  px.lookaside.toList.find? fun e => e.valid && decide (e.tag = index)

/-- A copy installed at the pointer, which advances by one, from 31 back to 0 (R6). -/
def install (px : Translator) (index : Nat) (slot : Fin 8) (copy : List Byte) : Translator :=
  { px with
    lookaside := px.lookaside.set px.pointer { valid := true, tag := index, slot := slot, copy := copy }
    pointer := px.pointer + 1 }

/-- The check a fetch makes on the content it obtained (R5): the fault, if any. -/
def contentFault (e : List Byte) (kind : EntryKind) : Option WalkFault :=
  if !entryValid e then some .invalid
  else if entryKind e ≠ some kind then some .type
  else none

/-- One fetch of a walk (R5, R6): the translator after it, and the content or the fault. -/
def fetch (px : Translator) (index : Nat) (kind : EntryKind) (slot : Fin 8) : Translator × Except WalkFault (List Byte) :=
  match lookasideHit px index with
  | some e =>
    match contentFault e.copy kind with
    | some f => (px, .error f)
    | none => (px, .ok e.copy)
  | none =>
    let copy := readEntry px.mem index
    match contentFault copy kind with
    | some f => (px, .error f)
    | none => (install px index slot copy, .ok copy)

/-! ### The walk (section 1.4) -/

/-- Where a fault lies, before the cursor is added (R16). -/
structure WalkStop where
  kind  : WalkFault
  entry : Nat
  level : WalkLevel
deriving DecidableEq, Repr

/-- What the grade level hands down: style origin and length, FLAT and class (R12). -/
structure StyleRef where
  origin : Nat
  length : Nat
  flat   : Bool
  cls    : Option (Fin 16)
deriving DecidableEq, Repr

/-- The grade level (R12). -/
def walkGrade (px : Translator) (slot : Fin 8) (o : OrderSlot) : Translator × Except WalkStop StyleRef :=
  match o.dtype with
  | .grade =>
    if ¬(1 ≤ o.length ∧ o.length ≤ 32) then (px, .error ⟨.range, o.origin, .grade⟩)
    else if ¬(o.gradeIndex < o.length) then (px, .error ⟨.range, o.origin + o.gradeIndex, .grade⟩)
    else if 4095 < o.origin + o.gradeIndex then (px, .error ⟨.range, o.origin + o.gradeIndex, .grade⟩)
    else
      match fetch px (o.origin + o.gradeIndex) .grade slot with
      | (px', .error f) => (px', .error ⟨f, o.origin + o.gradeIndex, .grade⟩)
      | (px', .ok e) => (px', .ok ⟨gradeOrigin e, gradeLength e, entryFlat e, gradeClass e⟩)
  | .style =>
    if o.gradeIndex ≠ 0 then (px, .error ⟨.range, o.origin, .grade⟩)
    else (px, .ok ⟨o.origin, o.length, false, none⟩)
  | _ =>
    if o.gradeIndex ≠ 0 then (px, .error ⟨.range, o.origin, .grade⟩)
    else (px, .ok ⟨o.origin, 1, false, none⟩)

/-- The style level: the panel entry's index and content (R13). -/
def walkStyle (px : Translator) (slot : Fin 8) (ref : StyleRef) (cursor : Nat) :
    Translator × Except WalkStop (Nat × List Byte) :=
  if ¬(1 ≤ ref.length ∧ ref.length ≤ 64) then (px, .error ⟨.range, ref.origin, .style⟩)
  else if ¬(cursor < ref.length) then (px, .error ⟨.range, ref.origin + cursor, .style⟩)
  else if 4095 < ref.origin + cursor then (px, .error ⟨.range, ref.origin + cursor, .style⟩)
  else
    match fetch px (ref.origin + cursor) .panel slot with
    | (px', .error f) => (px', .error ⟨f, ref.origin + cursor, .style⟩)
    | (px', .ok e) => (px', .ok (ref.origin + cursor, e))

/-- The content check of one gathered run (R14): the fault, if any. R14 gives its two checks no order; the count is
checked first (DESIGN CHOICE, assumption 42). -/
def runFault (r : StoredRun) : Option WalkFault :=
  if 400 < r.count then some .range
  else if r.kind = none then some .type
  else none

/-- `n` run entries fetched and checked one by one from an index on (R14). -/
def gatherRuns (slot : Fin 8) : Nat → Nat → Translator → Translator × Except WalkStop (List StoredRun)
  | 0, _, px => (px, .ok [])
  | n + 1, index, px =>
    if 4095 < index then (px, .error ⟨.range, index, .panel⟩)
    else
      match fetch px index .run slot with
      | (px', .error f) => (px', .error ⟨f, index, .panel⟩)
      | (px', .ok e) =>
        match runFault (storedRun e 1 (entryFlat e)) with
        | some f => (px', .error ⟨f, index, .panel⟩)
        | none =>
          match gatherRuns slot n (index + 1) px' with
          | (px'', .error stop) => (px'', .error stop)
          | (px'', .ok rs) => (px'', .ok (storedRun e 1 (entryFlat e) :: rs))

/-- The panel level: the runs of the plan as stored (R14). -/
def walkPanel (px : Translator) (slot : Fin 8) (index : Nat) (e : List Byte) :
    Translator × Except WalkStop (List StoredRun) :=
  if panelUniform e then
    match runFault (storedRun e 2 false) with
    | some f => (px, .error ⟨f, index, .panel⟩)
    | none => (px, .ok [storedRun e 2 false])
  else if ¬(1 ≤ panelRunCount e ∧ panelRunCount e ≤ 8) then (px, .error ⟨.range, index, .panel⟩)
  else gatherRuns slot (panelRunCount e) (panelRunOrigin e) px

/-! ### Plan adjustment (section 1.6) -/

/-- A value brought to the nearer end of a range (R19). -/
def clamp (low high v : Nat) : Nat := if v < low then low else if high < v then high else v

/-- One run adjusted by the seven steps of R19, with the effective flat bit `above` OR its own (R17). -/
def adjustRun (above : Bool) (r : StoredRun) : Run :=
  let spacing := clamp 30 600 r.spacing
  let taper := clamp 250 1000 r.taper
  let depthCap := min (3 * spacing) 1200
  let kind := r.kind.getD .knife
  { count := if kind = .box then r.count - r.count % 2 else r.count
    spacing := spacing
    depthStart := min r.depthStart depthCap
    depthEnd := min r.depthEnd depthCap
    taper := if kind = .box then 1000 else taper
    kind := kind
    dir := r.dir
    lead := min r.lead 50000
    flat := above || r.flat }

/-- A run that an adjustment changed (R19). -/
def runAdjusted (r : StoredRun) (t : Run) : Bool :=
  !(decide (t.count = r.count) && decide (t.spacing = r.spacing) && decide (t.depthStart = r.depthStart) &&
    decide (t.depthEnd = r.depthEnd) && decide (t.taper = r.taper) && decide (t.lead = r.lead))

/-- A walk's runs adjusted and its lengths checked (R19, R20, R21): the plan, or EMPTY or LIMIT. -/
def finishPlan (mirror : Bool) (cls : Fin 16) (above : Bool) (stored : List StoredRun) : Except WalkFault Plan :=
  let runs := stored.map (adjustRun above)
  let infeed := (runs.map runInfeed).sum
  let belt := (runs.map runBelt).sum
  let tail := Config.planMinimum - belt
  if belt = 0 then .error .empty
  else if Config.planLimit < infeed + tail then .error .limit
  else
    .ok { mirror := mirror, runs := runs, cls := cls, tail := tail, infeed := infeed + tail, belt := belt + tail
          adjusted := decide (tail ≠ 0) || stored.any fun r => runAdjusted r (adjustRun above r) }

/-- The plan of a FLAT designation, and of filler: one flat lead of the whole length (R15, R45). -/
def flatPlan (length : Nat) (cls : Fin 16) : Plan :=
  { mirror := false
    runs := [{ count := 0, spacing := 30, depthStart := 0, depthEnd := 0, taper := 1000, kind := .knife, dir := .left
               lead := length, flat := true }]
    cls := cls, tail := 0, infeed := length, belt := length, adjusted := false }

/-- The class resolved by R18. -/
def resolveClass (panel grade : Option (Fin 16)) (slot : Fin 16) : Fin 16 := (panel.orElse fun _ => grade).getD slot

/-- The admission walk of a slot (R11): the translator after it, and the plan with the style length the walk used
(R35), or where it stopped. -/
def walk (px : Translator) (slot : Fin 8) (o : OrderSlot) : Translator × Except WalkStop (Plan × Nat) :=
  match o.dtype with
  | .flat => (px, .ok (flatPlan o.flatLength o.cls, 1))
  | _ =>
    match walkGrade px slot o with
    | (px1, .error stop) => (px1, .error stop)
    | (px1, .ok ref) =>
      match walkStyle px1 slot ref o.cursor with
      | (px2, .error stop) => (px2, .error stop)
      | (px2, .ok (index, e)) =>
        match walkPanel px2 slot index e with
        | (px3, .error stop) => (px3, .error stop)
        | (px3, .ok stored) =>
          match finishPlan (panelMirror e) (resolveClass (panelClass e) ref.cls o.cls) (ref.flat || entryFlat e) stored with
          | .error f => (px3, .error ⟨f, index, .plan⟩)
          | .ok plan => (px3, .ok (plan, ref.length))

end Sys2Proof.Machine
end

