-- ==== Sys2Proof/Machine/Governor.lean ====
section
/-! DEFINITION. SG and the infeed speed: the governor's recompute (section 6.4) and the infeed command that follows it
(section 3.7). -/
namespace Sys2Proof.Machine

/-! ### Infeed speed (R61, R62) -/

/-- The infeed command the ratio and the belt command give (R61). -/
def infeedCommand (ratio : Ratio) (belt infeedMax : Nat) : Nat :=
  match ratio with
  | .flat => min belt infeedMax
  | .pleat c sp => min (belt * c / sp) infeedMax

/-- FS recomputes the infeed command and places it when it differs from the last (R62). -/
def recomputeInfeed (s : State) : State :=
  let cmd := infeedCommand s.fs.cursor.ratio s.sg.belt s.lc.record.infeedMax
  if cmd = s.fs.lastInfeed then s
  else placeAct .infeedDrive (.speed cmd) { s with fs.lastInfeed := cmd }

/-! ### The governor (R119 to R127) -/

/-- The class record of a piece's plan. -/
def classOf (p : Piece) (s : State) : ClassRecord := s.da.classes[p.plan.cls]

/-- Some cell below the last zone end names the piece (R120). -/
def inTunnel (p : Piece) (s : State) : Bool :=
  s.cl.any fun c => decide (c.piece = some p.id) && decide (c.index < lastZoneEnd s)

/-- The population: the panel pieces with a cell below the last zone end, and the FORMING one (R120). -/
def population (s : State) : List Piece :=
  s.pq.pieces.filter fun p => !p.flags.filler && (inTunnel p s || decide (p.state = .forming))

/-- The seam of formed position `f` has passed the tunnel (R122). -/
def seamPassed (exitMark : Option Position) (f : Position) : Bool :=
  match exitMark with
  | some m => !reaches f (advance m Config.cellUnits)
  | none => false

/-- A piece holds a seam that still counts (R122). -/
def countingSeam (p : Piece) (s : State) : Bool :=
  match p.seamFormed with
  | some f => !seamPassed s.sg.exitMark f
  | none => false

/-- A piece's requirement Dreq (R122). -/
def requirement (p : Piece) (s : State) : Nat :=
  let c := classOf p s
  if countingSeam p s then c.dmin * (1000 + c.margin) * (1000 + c.splice) / 1000 else c.dmin * (1000 + c.margin)

/-- `q` is more demanding than `p`: a higher requirement, or an equal one and a higher Tbase (R122). -/
def outranks (s : State) (q p : Piece) : Bool :=
  decide (requirement p s < requirement q s) ||
    (decide (requirement p s = requirement q s) && decide ((classOf p s).tbase < (classOf q s).tbase))

/-- The governing piece: the most demanding of the population, the one nearest the head among equals (R122). -/
def governingPiece (s : State) : Option Piece :=
  (population s).foldl
    (fun best q =>
      match best with
      | none => some q
      | some p => if outranks s q p then some q else some p) none

/-- Tdiff × L of one zone for a base temperature (R123). -/
def zoneHeat (tbase : Nat) (z : Zone) : Nat :=
  if z.enabled && !z.stale then (z.temp.getD 0 - tbase) * (100 * z.stored.length) else 0

/-- The heat limit for a governing piece and its requirement (R123). -/
def heatLimit (governing : Option Piece) (req : Nat) (s : State) : Nat :=
  match governing with
  | none => s.lc.record.beltMax
  | some p =>
    if req = 0 then s.lc.record.beltMax
    else
      min ((zoneIndices.map fun z => zoneHeat (classOf p s).tbase s.zr.zones[z]).sum * 1000 / req)
        s.lc.record.beltMax

/-- The infeed limit from the fold cursor (R124). -/
def infeedLimit (s : State) : Nat :=
  match s.fs.cursor.piece.bind fun id => findPiece id s with
  | none => s.lc.record.infeedMax
  | some p =>
    match s.fs.cursor.item with
    | .lead | .land | .fold =>
      match (planRuns p.plan)[s.fs.cursor.run]? with
      | some r =>
        if !r.flat && decide (1 ≤ r.count) then s.lc.record.infeedMax * r.spacing / largestConsumption r
        else s.lc.record.infeedMax
      | none => s.lc.record.infeedMax
    | _ => s.lc.record.infeedMax

/-- The lowest of setpoint, heat limit, infeed limit and belt max (R125). -/
def lowestLimit (r : LineRecord) (vHeat vInf : Nat) : Nat := min (min r.setpoint vHeat) (min vInf r.beltMax)

/-- The crawl floor applies (R125). -/
def crawlFloor (r : LineRecord) (vHeat vInf : Nat) : Bool :=
  decide (lowestLimit r vHeat vInf < r.crawl) && decide (r.crawl ≤ r.setpoint)

/-- The belt command in a line state (R125). -/
def beltCommand (line : LineState) (r : LineRecord) (vHeat vInf : Nat) : Nat :=
  match line with
  | .running => if crawlFloor r vHeat vInf then r.crawl else lowestLimit r vHeat vInf
  | .hold => min r.crawl r.setpoint
  | .stopping | .stopped | .fault => 0

/-- The recompute raises the command to crawl with the heat limit below crawl (R126). -/
def heatShort (line : LineState) (r : LineRecord) (vHeat vInf : Nat) : Bool :=
  decide (line = .running) && crawlFloor r vHeat vInf && decide (vHeat < r.crawl)

/-- SG's fields after computing the population, requirement and limits; the belt command is not yet set
(R120 to R124). -/
def limitsOf (s : State) : SpeedGovernor :=
  let g := governingPiece s
  let req := (g.map fun p => requirement p s).getD 0
  { s.sg with governing := g.map Piece.id, requirement := req, vHeat := heatLimit g req s, vInf := infeedLimit s }

/-- The belt command set, its SPEED frame placed when it has changed, and the infeed command after it (R127, R62). -/
def commandBelt (cmd : Nat) (s : State) : State :=
  if cmd = s.sg.belt then s
  else recomputeInfeed (placeAct .beltDrive (.speed cmd) { s with sg.belt := cmd })

/-- One recompute of the governor (R119). -/
def recompute (s : State) : State :=
  let g := limitsOf s
  let t := raiseIf (heatShort s.lc.line s.lc.record g.vHeat g.vInf) .heatShort { s with sg := g }
  commandBelt (beltCommand s.lc.line s.lc.record g.vHeat g.vInf) t

/-- FS sets its ratio: the governor recomputes, then the infeed command (R61, R62, R119). -/
def setRatio (r : Ratio) (s : State) : State := recomputeInfeed (recompute { s with fs.cursor.ratio := r })

end Sys2Proof.Machine
end

