-- ==== Sys2Proof/Machine/Splice.lean ====
section
/-! DEFINITION. SC: unwinds, the window search, firing, and the seam in flight (chapter 7). -/
namespace Sys2Proof.Machine

/-! ### Unwinds (section 7.1) -/

/-- The other unwind. -/
def otherUnwind : Unwind → Unwind
  | .a => .b
  | .b => .a

/-- One unwind record. -/
def unwindOf (u : Unwind) (sc : SpliceController) : UnwindRecord :=
  match u with
  | .a => sc.unwindA
  | .b => sc.unwindB

/-- One unwind record changed. -/
def modifyUnwind (u : Unwind) (f : UnwindRecord → UnwindRecord) (s : State) : State :=
  match u with
  | .a => { s with sc.unwindA := f s.sc.unwindA }
  | .b => { s with sc.unwindB := f s.sc.unwindB }

/-- The ACTIVE unwind, if any (R129). -/
def activeUnwind (sc : SpliceController) : Option Unwind :=
  if sc.unwindA.state = .active then some .a else if sc.unwindB.state = .active then some .b else none

/-- The standby: the unwind other than the ACTIVE one, when it is LOADED (R129). -/
def standbyUnwind (sc : SpliceController) : Option Unwind :=
  match activeUnwind sc with
  | some u => if (unwindOf (otherUnwind u) sc).state = .loaded then some (otherUnwind u) else none
  | none => none

/-- The ACTIVE unwind's diameter stands at or below a threshold; an absent one is above every threshold (R131). -/
def activeAtOrBelow (sc : SpliceController) (limit : Nat) : Bool :=
  match (activeUnwind sc).bind fun u => (unwindOf u sc).diameter with
  | some d => decide (d ≤ limit)
  | none => false

/-! ### The planned coverage (R134, R148) -/

/-- One piece of the coverage: the infeed stretch it covers and the items laid out over it. -/
structure Cover where
  id    : Nat
  start : Position
  stop  : Position
  items : List PlanItem
deriving DecidableEq, Repr

/-- A plan's items up to `n` units from its start: the item that contains that place is kept whole when it is a fold,
and otherwise as the part drawn (R148). -/
def cutItems : List PlanItem → Nat → List PlanItem
  | [], _ => []
  | it :: rest, n =>
    if it.length ≤ n then it :: cutItems rest (n - it.length)
    else if it.kind = .fold then [it]
    else if n = 0 then []
    else [{ it with length := n, spacing := n }]

/-- The items of a piece, laid out from its infeed start: its plan's, or as RESTART left it (R53, R148). -/
def pieceItems (p : Piece) : List PlanItem :=
  match p.cut, p.span with
  | some (cutAt, rest), some (start, stop) =>
    cutItems (planItems p.plan) (distance cutAt start) ++
      if distance stop (advance cutAt rest) = 0 then []
      else [flatItem .runOut 0 0 (distance stop (advance cutAt rest))]
  | _, _ => planItems p.plan

/-- The ADMITTED pieces laid one after another from a position (R134). -/
def coverAdmitted : Position → List Piece → List Cover
  | _, [] => []
  | start, p :: ps =>
    if p.state = .admitted then
      { id := p.id, start := start, stop := advance start p.plan.infeed, items := planItems p.plan } ::
        coverAdmitted (advance start p.plan.infeed) ps
    else coverAdmitted start ps

/-- The cover of a piece that has an infeed span. -/
def coverPiece (p : Piece) : List Cover :=
  match p.span with
  | some (start, stop) => [{ id := p.id, start := start, stop := stop, items := pieceItems p }]
  | none => []

/-- The SHORT piece whose run-out ends at a position. -/
def shortPiece (stop : Position) (s : State) : Option Piece :=
  s.pq.pieces.reverse.find? fun p =>
    decide (p.state = .formed) && p.flags.short && decide (p.span.map Prod.snd = some stop)

/-- The planned coverage, in infeed order (R134). -/
def coverage (s : State) : List Cover :=
  if s.fs.state = .forming ∨ s.fs.state = .held then
    match s.fs.cursor.piece with
    | some id =>
      match findPiece id s with
      | some p =>
        match p.span with
        | some (_, stop) => coverPiece p ++ coverAdmitted stop s.pq.pieces
        | none => []
      | none => []
    | none =>
      (match shortPiece s.fs.cursor.boundary s with
        | some p => coverPiece p
        | none => []) ++ coverAdmitted s.fs.cursor.boundary s.pq.pieces
  else []

/-! ### Safe spans (R135) -/

/-- The flat stretches of a list of items, as offsets from the piece's start: `from0` is where the stretch in hand
began and `at0` where the next item begins. A fold ends a stretch and the next begins at its end. -/
def flatStretches : List PlanItem → Nat → Nat → List (Nat × Nat)
  | [], from0, at0 => if from0 < at0 then [(from0, at0)] else []
  | it :: rest, from0, at0 =>
    if it.kind = .fold then
      (if from0 < at0 then [(from0, at0)] else []) ++ flatStretches rest (at0 + it.length) (at0 + it.length)
    else flatStretches rest from0 (at0 + it.length)

/-- The safe spans of a cover, as offsets from its start: each flat stretch shrunk by the seam margin at both ends. -/
def safeSpans (c : Cover) (margin : Nat) : List (Nat × Nat) :=
  (flatStretches c.items 0 0).filterMap fun (a, b) => if 2 * margin < b - a then some (a + margin, b - margin) else none

/-- A position is safe in a cover (R135). -/
def safeIn (c : Cover) (margin : Nat) (x : Position) : Bool :=
  spanContains c.start c.stop x &&
    (safeSpans c margin).any fun (a, b) => decide (a ≤ distance x c.start) && decide (distance x c.start < b)

/-- The earliest position of a span at or after `low`, if any. -/
def earliestIn (start low : Position) (span : Nat × Nat) : Option Position :=
  if signedDiff low start ≤ (span.1 : Int) then some (advance start span.1)
  else if signedDiff low start < (span.2 : Int) then some low
  else none

/-- The earliest safe position at or after `low`, through the coverage in infeed order (R136). -/
def earliestSafe (cs : List Cover) (margin : Nat) (low : Position) : Option Position :=
  cs.findSome? fun c => (safeSpans c margin).findSome? (earliestIn c.start low)

/-- The cover that contains a position (R143). -/
def coverOf (x : Position) (cs : List Cover) : Option Cover := cs.find? fun c => spanContains c.start c.stop x

/-! ### Seam records (R143 to R146) -/

/-- The formed length an item contributes before its end (R144). -/
def itemBelt (it : PlanItem) : Nat :=
  match it.kind with
  | .fold => 0
  | .land => it.spacing
  | _ => it.length

/-- The formed length laid before a place `n` units from the start of the items (R144). -/
def beltBefore : List PlanItem → Nat → Nat
  | [], _ => 0
  | it :: rest, n =>
    if it.length ≤ n then itemBelt it + beltBefore rest (n - it.length)
    else if it.kind = .fold then 0
    else n

/-- What the lost folds of a piece add to the offset of a seam at `x` (R146). -/
def lostBefore (lost : List (Position × Nat)) (x : Position) : Nat :=
  (lost.map fun (f, n) => if reaches x f then min n (distance x f) else 0).sum

/-- A place `n` units from the start of the items lies in a run-out. -/
def inRunOut : List PlanItem → Nat → Bool
  | [], _ => false
  | it :: rest, n => if it.length ≤ n then inRunOut rest (n - it.length) else decide (it.kind = .runOut)

/-- The belt offset of a seam at `x` in a covered piece (R144, R146, R148). -/
def seamOffset (p : Piece) (c : Cover) (x : Position) : Nat :=
  if inRunOut c.items (distance x c.start) then distance p.beltEnd p.beltStart - distance c.stop x
  else beltBefore c.items (distance x c.start) + lostBefore p.lost x

/-- CL sets SEAM in every cell whose interval contains a formed position (R85). -/
def markSeam (f : Position) (s : State) : State :=
  { s with cl := s.cl.map fun c => if distance f c.formed < Config.cellUnits then { c with seam := true } else c }

/-- A written or changed seam record handed to CL and then to SG (R145). -/
def handSeam (id : Nat) (s : State) : State :=
  match (findPiece id s).bind Piece.seamFormed with
  | some f => recompute (markSeam f s)
  | none => recompute s

/-- SPLICE_FORCED of a piece judged; the event flag is raised when it goes from clear to set (R145). -/
def judgeForced (p : Piece) (forced : Bool) (s : State) : State :=
  raiseIf (forced && !p.flags.spliceForced) .spliceForced
    (modifyPiece p.id (fun q => { q with flags.spliceForced := forced }) s)

/-- A seam record written into a covered piece (R143, R145): the record, SPLICE_FORCED and its event flag, then CL and SG.
The manual does not place the event flag before the hand-over (DESIGN CHOICE, assumption 60). -/
def writeSeam (p : Piece) (c : Cover) (x : Position) (s : State) : State :=
  handSeam p.id
    (judgeForced p (!safeIn c s.lc.record.seamMargin x)
      (modifyPiece p.id
        (fun q => { q with seam := some { position := x, offset := seamOffset p c x }, flags.spliced := true }) s))

/-- The record of a previous attachment removed, its flags cleared, and the removal handed on (R143, R145). -/
def detachSeam (attached : Option Nat) (s : State) : State :=
  match attached with
  | some id =>
    recompute (modifyPiece id (fun q => { q with seam := none, flags.spliced := false, flags.spliceForced := false }) s)
  | none => s

/-- The seam in flight placed in a covered piece that contains it (R143). From another piece its record is removed, and the
removal handed on, before the new record is written; the manual gives the two no order (DESIGN CHOICE, assumption 58). -/
def attachTo (f : SeamFlight) (p : Piece) (c : Cover) (s : State) : State :=
  if f.attached = some p.id then
    let t := writeSeam p c f.seam s
    { t with sc.seam := if f.reached then none else some f }
  else
    let t := detachSeam f.attached s
    if p.seam.isSome then
      let u := raise .spliceForced (modifyPiece p.id (fun q => { q with flags.spliceForced := true }) t)
      { u with sc.seam := none }
    else
      let u := writeSeam p c f.seam t
      { u with sc.seam := if f.reached then none else some { f with attached := some p.id } }

/-- The seam in flight attached again (R143): placed in the covering piece, left unattached, or dropped when it has
been reached (R147). -/
def attachSeam (s : State) : State :=
  match s.sc.seam with
  | none => s
  | some f =>
    match coverOf f.seam (coverage s) with
    | some c =>
      match findPiece c.id s with
      | some p => attachTo f p c s
      | none => s
    | none =>
      let t := detachSeam f.attached s
      { t with sc.seam := if f.reached then none else some { f with attached := none } }

/-! ### Search and firing (R136 to R139) -/

/-- The earliest seam position that can still be made (section 7.3). -/
def seamMinimum (s : State) : Position :=
  advance (advance s.pt.infeed.held s.lc.record.spliceDistance) s.lc.record.reactionMargin

/-- A target at a seam position (R136). -/
def targetAt (x : Position) (forced : Bool) (s : State) : SpliceTarget :=
  { seam := x, fire := x - BitVec.ofNat 32 s.lc.record.spliceDistance, forced := forced }

/-- The coverage reaches beyond a position (R136). -/
def coverageBeyond (cs : List Cover) (x : Position) : Bool :=
  match cs.getLast? with
  | some c => decide (0 < signedDiff c.stop x)
  | none => false

/-- What a fresh search finds (R136, R137). At or below the forced diameter it gives S_min, forced: R137 says so of an
ARMED search, and the search that replaces an unsafe target in WINDOW (R138) is taken alike (DEDUCED, assumption 45). -/
def searchTarget (s : State) : Option SpliceTarget :=
  let low := seamMinimum s
  let horizon := s.lc.record.spliceHorizon
  if activeAtOrBelow s.sc s.lc.record.forcedDiameter then some (targetAt low true s)
  else
    match earliestSafe (coverage s) s.lc.record.seamMargin low with
    | some x =>
      if distance x low ≤ horizon then some (targetAt x false s)
      else if coverageBeyond (coverage s) (advance low horizon) then some (targetAt low true s)
      else none
    | none => if coverageBeyond (coverage s) (advance low horizon) then some (targetAt low true s) else none

/-- The splicer fires (R139): SPLICE placed, FIRING entered at the clock reading, the target becomes the seam in
flight, and the seam is attached. -/
def fireSplice (t : SpliceTarget) (s : State) : State :=
  let placed :=
    match standbyUnwind s.sc with
    | some u => placeAct .splicer (.splice u) s
    | none => s
  attachSeam
    { placed with
      sc.state := .firing, sc.target := none, sc.firing := some s.clock, sc.timeoutTaken := false
      sc.seam := some { seam := t.seam, attached := none, reached := false } }

/-- SC fires when it is WINDOW and the infeed position PT holds has reached the target's firing position (R139). -/
def fireIfReached (s : State) : State :=
  match s.sc.target with
  | some t => if s.sc.state = .window && reaches s.pt.infeed.held t.fire then fireSplice t s else s
  | none => s

/-- A target taken, with the state it goes with (R136). -/
def takeTarget (t : Option SpliceTarget) (s : State) : State :=
  { s with sc.target := t, sc.state := if t.isSome then .window else .armed }

/-- The held target stands (R138): it is forced, or its seam is still safe in the coverage. -/
def targetStands (t : SpliceTarget) (s : State) : Bool :=
  t.forced || (coverage s).any fun c => safeIn c s.lc.record.seamMargin t.seam

/-- The search as its triggers run it (R138). A target that stands keeps the firing position it was given, under a stored
line record with another splice distance too (DEDUCED, assumption 52). -/
def runSearch (s : State) : State :=
  match s.sc.state, s.sc.target with
  | .armed, _ => if s.sc.seam.isSome then s else fireIfReached (takeTarget (searchTarget s) s)
  | .window, some t => fireIfReached (if targetStands t s then s else takeTarget (searchTarget s) s)
  | .window, none => fireIfReached (takeTarget (searchTarget s) s)
  | _, _ => s

/-- What SC does at an event that runs the search: the seam in flight is attached again, then the search runs (R138,
R143). -/
def replanSplice (s : State) : State := runSearch (attachSeam s)

/-- The splicer state judged (R132). -/
def judgeSplicer (s : State) : State :=
  match s.sc.state with
  | .firing => s
  | .idle | .ready =>
    if (standbyUnwind s.sc).isNone then { s with sc.state := .idle, sc.target := none }
    else if activeAtOrBelow s.sc s.lc.record.spliceDiameter then replanSplice { s with sc.state := .armed, sc.target := none }
    else { s with sc.state := .ready, sc.target := none }
  | .armed | .window =>
    if (standbyUnwind s.sc).isNone then { s with sc.state := .idle, sc.target := none } else s

/-- The check of the forced diameter at a diameter sample of the ACTIVE unwind (R137). A target it sets whose firing
position is reached fires at once, as one that a search leaves does (R136, R139; DEDUCED, assumption 59). -/
def checkForced (s : State) : State :=
  if activeAtOrBelow s.sc s.lc.record.forcedDiameter then
    match s.sc.state, s.sc.target with
    | .armed, _ =>
      if s.sc.seam.isSome then s else fireIfReached (takeTarget (some (targetAt (seamMinimum s) true s)) s)
    | .window, some t =>
      if !t.forced && decide (signedDiff (seamMinimum s) t.seam < 0) then
        fireIfReached (takeTarget (some (targetAt (seamMinimum s) true s)) s)
      else s
    | _, _ => s
  else s

/-- A fold lost at fold point `f` of length `n` in the FORMING piece: a seam record of that piece at or after `f` is
taken again and handed on (R146). -/
def seamLostFold (id : Nat) (f : Position) (n : Nat) (s : State) : State :=
  match (findPiece id s).bind Piece.seam with
  | some r =>
    if reaches r.position f then
      handSeam id
        (modifyPiece id
          (fun q => { q with seam := some { r with offset := r.offset + min n (distance r.position f) } }) s)
    else s
  | none => s

/-- The search that a seam laid brings, when SC is ARMED (R138, R147). -/
def searchIfArmed (s : State) : State := if s.sc.state = .armed then runSearch s else s

/-- The seam in flight tested against an infeed position (R147): reached and attached it is laid, which frees an ARMED
splicer to search again; reached and not attached it stays in flight. -/
def testSeam (x : Position) (s : State) : State :=
  match s.sc.seam with
  | some f =>
    if reaches x f.seam then
      if f.attached.isSome then searchIfArmed { s with sc.seam := none }
      else { s with sc.seam := some { f with reached := true } }
    else s
  | none => s

/-- SC takes an infeed-position event: first the firing position, then the seam in flight (R139, R147,
assumption 8). -/
def spliceInfeed (x : Position) (s : State) : State := testSeam x (fireIfReached s)

/-- A laid seam in the SHORT piece judged again against its new layout (R148). -/
def rejudgeShort (id : Nat) (s : State) : State :=
  match findPiece id s with
  | some p =>
    match p.seam, coverPiece p with
    | some r, c :: _ =>
      if (s.sc.seam.bind SeamFlight.attached) = some id then s
      else judgeForced p (!safeIn c s.lc.record.seamMargin r.position) s
    | _, _ => s
  | none => s

end Sys2Proof.Machine
end

