-- ==== Sys2Proof/Machine/Queue.lean ====
section
/-! DEFINITION. PQ: the run list, admission, piece ids and removal at the tail (chapter 2). -/
namespace Sys2Proof.Machine

/-! ### Piece ids (R38) -/

/-- The id after an id: 65535 is followed by 1. -/
def nextPieceId (n : Nat) : Nat := if 65535 ≤ n then 1 else n + 1

/-- Some queued piece has the id. -/
def idTaken (n : Nat) (ps : List Piece) : Bool := ps.any fun p => decide (p.id = n)

/-- The counter stepped on past ids in the queue; one more step than there are queued pieces is enough (R38). -/
def freeId (ps : List Piece) : Nat → Nat → Nat
  | 0, n => n
  | fuel + 1, n => if idTaken n ps then freeId ps fuel (nextPieceId n) else n

/-- The id the next piece takes (R38). The counter steps past the ids in the queue when a piece takes its id and not
before, so between two pieces it can stand at an id in the queue (DESIGN CHOICE, assumption 56). -/
def newId (s : State) : Nat := freeId s.pq.pieces (s.pq.pieces.length + 1) s.pq.nextId

/-! ### Piece records (R39, R40) -/

/-- Where a new piece's belt span begins (R40). -/
def newBeltStart (s : State) : Position :=
  match s.pq.pieces.getLast? with
  | some p => p.beltEnd
  | none => s.fs.formed

/-- A new record from its plan (R39, R40). -/
def newPiece (plan : Plan) (s : State) : Piece :=
  { id := newId s, slot := none, load := 0, gradeIndex := 0, cursor := 0, done := 0, plan := plan
    beltStart := newBeltStart s, beltEnd := advance (newBeltStart s) plan.belt, span := none, state := .admitted
    flags := {}, seam := none, doses := none, verdict := .good, cut := none, lost := [] }

/-- A panel piece admitted from a slot (R35, R39). -/
def panelPiece (slot : Fin 8) (plan : Plan) (s : State) : Piece :=
  let o := s.pq.slots[slot]
  { newPiece plan s with
    slot := some slot, load := o.load, gradeIndex := o.gradeIndex, cursor := o.cursor, done := o.done
    flags := { adjusted := plan.adjusted } }

/-- A filler piece (R45). -/
def fillerPiece (s : State) : Piece :=
  { newPiece (flatPlan s.lc.record.fillerLength s.lc.record.fillerClass) s with
    flags := { filler := true }, verdict := .filler }

/-- A record appended at the tail, its id taken from the counter (R38). -/
def appendPiece (p : Piece) (s : State) : State :=
  { s with pq.pieces := s.pq.pieces ++ [p], pq.nextId := nextPieceId p.id }

/-! ### The run list (R28) -/

/-- The first member becomes head: a LOADED slot becomes ACTIVE (R28). The admission check that follows is its
caller's. -/
def promoteHead (s : State) : State :=
  match s.pq.runList with
  | [] => s
  | h :: _ =>
    if s.pq.slots[h].state = .loaded then modifySlot h (fun o => { o with state := .active }) s else s

/-! ### Admission (R32 to R37) -/

/-- The head slot, when an admission can be made from it: R32 but for the line state. -/
def readyHead (s : State) : Option (Fin 8) :=
  match s.pq.runList with
  | [] => none
  | h :: _ =>
    if s.pq.slots[h].state = .active && decide (s.pq.pieces.length < Config.queueLimit) then some h else none

/-- The line state lets admissions be made (R32). -/
def lineAdmits (line : LineState) : Bool :=
  match line with
  | .stopped | .running | .stopping => true
  | .hold | .fault => false

/-- The slot's cursor advanced by one admission (R35). Only a FLAT designation can stand at a cursor beyond its style
length; it completes one skirt at every admission (assumption 41). -/
def advanceCursor (styleLength : Nat) (o : OrderSlot) : OrderSlot :=
  if styleLength ≤ o.cursor + 1 then { o with cursor := 0, done := o.done + 1 } else { o with cursor := o.cursor + 1 }

/-- An admission completed its slot's order (R36). -/
def orderComplete (styleLength : Nat) (o : OrderSlot) : Bool :=
  decide (styleLength ≤ o.cursor + 1) && decide (o.done + 1 = o.requested)

/-- The order at the head completed: DONE, ORDER_DONE, off the list, and the next member becomes head (R36). -/
def completeOrder (slot : Fin 8) (s : State) : State :=
  let t := raise .orderDone (modifySlot slot (fun o => { o with state := .done }) s)
  promoteHead { t with pq.runList := t.pq.runList.filter fun i => !decide (i = slot) }

/-- A walked plan admitted (R35): the record, the cursor, the ADJUSTED event, and the new piece handed to SC and SG. When
it completes the order, ORDER_DONE and the change of head (R36) come after that; the manual gives the two no order
(DESIGN CHOICE, assumption 43). -/
def acceptPlan (slot : Fin 8) (plan : Plan) (styleLength : Nat) (s : State) : State :=
  let complete := orderComplete styleLength s.pq.slots[slot]
  let placed := modifySlot slot (advanceCursor styleLength) (appendPiece (panelPiece slot plan s) s)
  let told := recompute (replanSplice (raiseIf plan.adjusted .planAdjusted placed))
  if complete then completeOrder slot told else told

/-- A faulted walk (R37). -/
def faultSlot (slot : Fin 8) (f : FaultRecord) (s : State) : State :=
  raise .patternFault (modifySlot slot (fun o => { o with state := .faulted, fault := some f }) s)

/-- What one admission came to: the new piece's id, or the fault record. -/
inductive Admission where
  | piece (id : Nat)
  | fault (record : FaultRecord)
deriving DecidableEq, Repr

/-- One admission from a slot (R35, R37). -/
def admitFrom (slot : Fin 8) (s : State) : State × Admission :=
  let o := s.pq.slots[slot]
  match walk s.px slot o with
  | (px, .error stop) =>
    let f : FaultRecord := { kind := stop.kind, entry := stop.entry, level := stop.level, cursor := o.cursor }
    (faultSlot slot f { s with px := px }, .fault f)
  | (px, .ok (plan, styleLength)) => (acceptPlan slot plan styleLength { s with px := px }, .piece (newId s))

/-- The admission check's loop: each pass admits one piece, so as many passes as the admission depth are enough. -/
def admitLoop : Nat → State → State
  | 0, s => s
  | fuel + 1, s =>
    if lineAdmits s.lc.line && decide (admittedCount s < s.lc.record.depth) then
      match readyHead s with
      | some slot => admitLoop fuel (admitFrom slot s).1
      | none => s
    else s

/-- The admission check (R33); in STEPPED mode it admits nothing. -/
def admissionCheck (s : State) : State :=
  if s.lc.record.continuous then admitLoop s.lc.record.depth s else s

/-! ### Removal at the tail (R47, R48) -/

/-- The ADMITTED pieces, oldest first. -/
def admittedPieces (s : State) : List Piece := s.pq.pieces.filter fun p => decide (p.state = .admitted)

/-- The earliest removed piece of a slot (R47). -/
def earliestOf (slot : Fin 8) (removed : List Piece) : Option Piece :=
  removed.find? fun p => decide (p.slot = some slot)

/-- A slot is set back by its earliest removed piece (R47). -/
def setsBack (removed : List Piece) (slot : Fin 8) (o : OrderSlot) : Option Piece :=
  match earliestOf slot removed with
  | some p => if p.load = o.load && decide (o.state ≠ .empty) then some p else none
  | none => none

/-- The slot indices. -/
def slotIndices : List (Fin 8) := [0, 1, 2, 3, 4, 5, 6, 7]

/-- The DONE slots that the removal sets back, in the admission order of their earliest removed pieces (R48). -/
def returnedSlots (removed : List Piece) (s : State) : List (Fin 8) :=
  (removed.filterMap Piece.slot).eraseDups.filter fun i =>
    (setsBack removed i s.pq.slots[i]).isSome && decide (s.pq.slots[i].state = .done)

/-- One slot's cursor and skirts done set back (R47). -/
def setBackSlot (removed : List Piece) (s : State) (i : Fin 8) : State :=
  match setsBack removed i s.pq.slots[i] with
  | some p => modifySlot i (fun o => { o with cursor := p.cursor, done := p.done }) s
  | none => s

/-- DONE slots set back return to the front of the run list: the first ACTIVE, the others LOADED behind it, and the
member that was head LOADED if it was ACTIVE (R48). -/
def returnSlots (returned : List (Fin 8)) (s : State) : State :=
  match returned with
  | [] => s
  | first :: _ =>
    let demoted :=
      match s.pq.runList with
      | h :: _ => if s.pq.slots[h].state = .active then modifySlot h (fun o => { o with state := .loaded }) s else s
      | [] => s
    let loaded := returned.foldl (fun t i => modifySlot i (fun o => { o with state := .loaded }) t) demoted
    let t := modifySlot first (fun o => { o with state := .active }) loaded
    { t with pq.runList := returned ++ t.pq.runList }

/-- The cells that name removed pieces renamed to the SHORT piece, or to none with TRACK_GAP (R67, R85). -/
def renameCells (removed : List Piece) (short : Option Nat) (s : State) : State :=
  let names (c : BeltCell) : Bool := removed.any fun p => decide (c.piece = some p.id)
  raiseIf (short.isNone && s.cl.any names) .trackGap
    { s with cl := s.cl.map fun c => if names c then { c with piece := short } else c }

/-- The removal of the ADMITTED pieces (R47, R48, R67): the records go, the slots are set back, the cells renamed, and
the removals handed to SC and SG. The manual gives TRACK_GAP and the two blocks no order (DESIGN CHOICE,
assumption 53). A RESTART that ends no piece and finds none ADMITTED, as in a run-out, is handed on all the same: SC searches
and SG recomputes, which in RUNNING can raise HEAT_SHORT again, though R67 and R119 name removals only (DESIGN CHOICE,
assumption 62). -/
def removeAdmitted (short : Option Nat) (s : State) : State :=
  let removed := admittedPieces s
  let returned := returnedSlots removed s
  let kept := { s with pq.pieces := s.pq.pieces.filter fun p => !decide (p.state = .admitted) }
  recompute (replanSplice (renameCells removed short (returnSlots returned (slotIndices.foldl (setBackSlot removed) kept))))

end Sys2Proof.Machine
end

