-- ==== Sys2Proof/Machine/Zones.lean ====
section
/-! DEFINITION. ZR and DA's accrual: probe halves, zone states, valves, lock pairs, stored ZONE entries (chapter 5), and
the dose credited at a probe arrival (section 6.2). -/
namespace Sys2Proof.Machine

/-! ### Zone temperature and staleness (R92, R93) -/

/-- A half is FRESH. -/
def HalfRecord.isFresh (h : HalfRecord) : Bool := decide (h.fresh = .fresh)

/-- The zone temperature the halves give (R93). -/
def halvesTemp (z : Zone) : Option Nat :=
  match z.upper.isFresh, z.lower.isFresh with
  | true, true => some ((z.upper.temp.getD 0 + z.lower.temp.getD 0) / 2)
  | true, false => z.upper.temp
  | false, true => z.lower.temp
  | false, false => none

/-- The zone temperature recomputed (R93). -/
def Zone.retemp (z : Zone) : Zone := { z with temp := halvesTemp z }

/-- CL marks UNCERTAIN every cell lying in a zone (R83). -/
def markUncertain (z : Fin 8) (s : State) : State :=
  { s with cl := s.cl.map fun c => if s.zr.zones[z].covers c.index then { c with uncertain := true } else c }

/-- A zone becomes STALE (R92): its mark, temperature and count, ZONE_STALE, the cells in it, and then the governor's
recompute (R119), which the manual gives no place among these (DESIGN CHOICE, assumption 57). -/
def goStale (z : Fin 8) (s : State) : State :=
  recompute (markUncertain z (raise .zoneStale
    (modifyZone z (fun r => { r with stale := true, temp := none, inBand := 0 }) s)))

/-! ### Valves and lock pairs (R102, R104) -/

/-- A half's valve set, and its VALVE frame placed when the opening differs from the last sent (R102). -/
def setValve (z : Fin 8) (h : Half) (opening : Nat) (s : State) : State :=
  let r := s.zr.zones[z].half h
  if r.lastSent = some opening then modifyZone z (fun q => q.setHalf h { r with valve := opening }) s
  else
    placeAct (.valve z h) (.valve opening)
      (modifyZone z (fun q => q.setHalf h { r with valve := opening, lastSent := some opening }) s)

/-- The odd zone of a pair, index 0 being pair 1-2. -/
def oddZone (p : Fin 4) : Fin 8 := ⟨2 * p.val, by omega⟩

/-- The even zone of a pair. -/
def evenZone (p : Fin 4) : Fin 8 := ⟨2 * p.val + 1, by omega⟩

/-- The pair a zone belongs to. -/
def pairOf (z : Fin 8) : Fin 4 := ⟨z.val / 2, by omega⟩

/-- The conditions for the lock of a pair to be engaged (R104). -/
def lockHolds (p : Fin 4) (s : State) : Bool :=
  let o := s.zr.zones[oddZone p]
  let e := s.zr.zones[evenZone p]
  o.stored.lock && o.enabled && e.enabled && decide (o.state ≠ .shut) && decide (e.state ≠ .shut) &&
    !e.stored.manual && decide (o.target = e.target)

/-- The lock of a pair is engaged: it was when last judged, and its conditions still hold. -/
def lockEngaged (p : Fin 4) (s : State) : Bool := s.zr.locks[p] && lockHolds p s

/-- A zone is the odd zone of its pair. -/
def isOdd (z : Fin 8) : Bool := decide (z.val % 2 = 0)

/-- The even zone's valve of one half takes the odd zone's opening, limited to its own valve max (R104). -/
def copyValve (p : Fin 4) (h : Half) (s : State) : State :=
  setValve (evenZone p) h
    (min ((s.zr.zones[oddZone p].half h).valve) s.zr.zones[evenZone p].stored.valveMax) s

/-- A zone's valve set; the odd zone of an engaged pair passes it to the even zone (R102, R104). -/
def driveValve (z : Fin 8) (h : Half) (opening : Nat) (s : State) : State :=
  let t := setValve z h opening s
  if isOdd z && lockEngaged (pairOf z) t then copyValve (pairOf z) h t else t

/-- The lock of a pair judged again; when it becomes engaged the even zone's valves take the odd zone's openings,
upper then lower (R104). -/
def judgeLock (p : Fin 4) (s : State) : State :=
  let t := { s with zr.locks := s.zr.locks.set p (lockHolds p s) }
  if lockHolds p s && !s.zr.locks[p] then copyValve p .lower (copyValve p .upper t) else t

/-- Every pair judged again, pair 1-2 first (assumption 15). -/
def judgeLocks (s : State) : State := judgeLock 3 (judgeLock 2 (judgeLock 1 (judgeLock 0 s)))

/-- A zone's valves set to its manual values, each limited to the valve max, upper then lower (R103). -/
def driveManual (z : Fin 8) (s : State) : State :=
  let t := driveValve z .upper (min s.zr.zones[z].stored.manualUpper s.zr.zones[z].stored.valveMax) s
  driveValve z .lower (min s.zr.zones[z].stored.manualLower s.zr.zones[z].stored.valveMax) t

/-! ### Regulation and evaluation (R95, R101) -/

/-- The valve change an error calls for, or none (R101). -/
def valveStep (st : ZoneStored) (err : Int) : Option Int :=
  if (st.fastThreshold : Int) < err then some st.stepFast
  else if (st.band : Int) < err then some st.stepSlow
  else if err < -(st.fastThreshold : Int) then some (-(st.stepFast : Int))
  else if err < -(st.band : Int) then some (-(st.stepSlow : Int))
  else none

/-- An opening stepped and limited to 0..valve max (R101). -/
def steppedValve (valve : Nat) (step : Int) (valveMax : Nat) : Nat := min ((valve : Int) + step).toNat valveMax

/-- A zone's valves are not stepped by its own regulation: manual control (R103), or the even zone of an engaged pair
(R105). -/
def regulationPaused (z : Fin 8) (s : State) : Bool :=
  s.zr.zones[z].stored.manual || (!isOdd z && lockEngaged (pairOf z) s)

/-- A half regulated from the temperature just taken for it (R101). In band nothing is set (assumption 14). -/
def regulate (z : Fin 8) (h : Half) (temp : Nat) (s : State) : State :=
  if regulationPaused z s then s
  else
    match s.zr.zones[z].target with
    | none => s
    | some target =>
      match valveStep s.zr.zones[z].stored ((target : Int) - temp) with
      | none => s
      | some step =>
        driveValve z h (steppedValve (s.zr.zones[z].half h).valve step s.zr.zones[z].stored.valveMax) s

/-- The state a zone takes when its in-band count reaches 3 (R95). -/
def settled (st : ZoneState) : ZoneState :=
  match st with
  | .heating | .waking => .ready
  | .standbySettling => .standby
  | other => other

/-- A zone temperature within the band of a target (R95). -/
def inBandOf (st : ZoneStored) (temp target : Nat) : Bool := decide (temp ≤ target + st.band) && decide (target ≤ temp + st.band)

/-- One evaluation of a zone (R94, R95). -/
def Zone.evaluate (z : Zone) : Zone :=
  match z.temp, z.target with
  | some temp, some target =>
    if inBandOf z.stored temp target then
      { z with inBand := min (z.inBand + 1) 3, state := if 3 ≤ z.inBand + 1 then settled z.state else z.state }
    else { z with inBand := 0 }
  | _, _ => z

/-! ### Accrual (R109 to R114) -/

/-- The class of a cell's accrual: its piece's, or the filler class for a GAP cell (R112). -/
def cellClass (c : BeltCell) (s : State) : ClassRecord :=
  match c.piece.bind fun id => findPiece id s with
  | some p => classOf p s
  | none => s.da.classes[s.lc.record.fillerClass]

/-- The time an arrival credits (R111). -/
def creditTime (last : Option Clock) (now : Clock) : Nat :=
  match last with
  | none => 0
  | some t => min (elapsed now t) Config.accrualLimitMs

/-- A cell is saturated: its dose stands at the limit with residue 0 (R114, assumption 13). -/
def BeltCell.saturated (c : BeltCell) : Bool := decide (c.dose = Config.doseLimit) && decide (c.residue = 0)

/-- A cell credited (R110, R114): a dose that would pass the limit becomes the limit with residue 0, and a saturated cell
stays as it is. A credit of 0 changes no cell (R111). -/
def creditCell (tdiff ms : Nat) (c : BeltCell) : BeltCell :=
  let q := tdiff * ms + c.residue
  if Config.doseLimit < c.dose + q / 1000 then { c with dose := Config.doseLimit, residue := 0 }
  else if c.saturated then c
  else { c with dose := c.dose + q / 1000, residue := q % 1000 }

/-- The accrual of an arrival at a zone with a temperature (R110). -/
def accrue (z : Fin 8) (temp : Nat) (s : State) : State :=
  let ms := creditTime s.da.lastAccrual[z] s.clock
  recompute
    { s with
      cl := s.cl.map fun c =>
        if s.zr.zones[z].covers c.index then creditCell (temp - (cellClass c s).tbase) ms c else c
      da.lastAccrual := s.da.lastAccrual.set z (some s.clock) }

/-! ### Probe arrivals and expiries (R91, R92) -/

/-- Steps 1 to 4 of R91: the half takes its reading, staleness ends, and the zone temperature follows. -/
def Zone.takeReading (z : Zone) (h : Half) (temp : Nat) (now : Clock) : Zone :=
  let taken := z.setHalf h { z.half h with temp := some temp, fresh := .fresh, lastArrival := now }
  { taken with stale := if z.enabled then false else z.stale }.retemp

/-- Step 5 of R91: the half regulated, then the zone evaluated. -/
def regulateAndEvaluate (z : Fin 8) (h : Half) (temp : Nat) (s : State) : State :=
  if s.zr.zones[z].state = .shut then s else modifyZone z Zone.evaluate (regulate z h temp s)

/-- A good probe sample of a half, limited to a temperature (R91). -/
def takeProbe (z : Fin 8) (h : Half) (temp : Nat) (s : State) : State :=
  let t := modifyZone z (fun r => r.takeReading h temp s.clock) s
  if t.zr.zones[z].enabled then
    let u := regulateAndEvaluate z h temp t
    match u.zr.zones[z].temp with
    | some tz => accrue z tz u
    | none => u
  else t

/-- No half is FRESH. -/
def Zone.noneFresh (z : Zone) : Bool := !z.upper.isFresh && !z.lower.isFresh

/-- A FRESH half's staleness timer has run out (R92). -/
def halfDue (r : HalfRecord) (now : Clock) : Bool := r.isFresh && decide (Config.halfExpiryMs ≤ elapsed now r.lastArrival)

/-- The expiry of a half (R92). -/
def expireHalf (z : Fin 8) (h : Half) (s : State) : State :=
  let t := modifyZone z (fun r => (r.setHalf h { r.half h with fresh := .out }).retemp) s
  if t.zr.zones[z].enabled && t.zr.zones[z].noneFresh then goStale z t else t

/-! ### WAKE, STANDBY and standby-on-stop (R96 to R98) -/

/-- WAKE changes a zone in this state (R96). -/
def wakes (st : ZoneState) : Bool :=
  match st with
  | .shut | .standby | .standbySettling => true
  | .heating | .waking | .ready => false

/-- A zone woken: HEATING from SHUT, WAKING from standby (R96). -/
def Zone.woken (z : Zone) : Zone :=
  { z with state := if z.state = .shut then .heating else .waking, target := some z.stored.setpoint, inBand := 0 }

/-- WAKE reaching one zone: a manual zone that leaves SHUT goes to its manual values at once (R96, R103). -/
def wakeZone (s : State) (z : Fin 8) : State :=
  let old := s.zr.zones[z]
  if old.enabled && wakes old.state then
    let t := modifyZone z Zone.woken s
    if old.state = .shut && old.stored.manual then driveManual z t else t
  else s

/-- STANDBY changes a zone in this state (R97). -/
def standsBy (st : ZoneState) : Bool :=
  match st with
  | .heating | .waking | .ready => true
  | .shut | .standby | .standbySettling => false

/-- STANDBY reaching one zone (R97). -/
def standbyZone (s : State) (z : Fin 8) : State :=
  let old := s.zr.zones[z]
  if old.enabled && standsBy old.state then
    modifyZone z (fun r => { r with state := .standbySettling, target := some r.stored.standbyPoint, inBand := 0 }) s
  else s

/-- How many of the zones named WAKE changes (R96). -/
def wakeCount (zs : List (Fin 8)) (s : State) : Nat :=
  (zs.filter fun z => s.zr.zones[z].enabled && wakes s.zr.zones[z].state).length

/-- How many of the zones named STANDBY changes (R97). -/
def standbyCount (zs : List (Fin 8)) (s : State) : Nat :=
  (zs.filter fun z => s.zr.zones[z].enabled && standsBy s.zr.zones[z].state).length

/-- WAKE of the zones named, then the lock pairs judged again (R96, assumption 15). -/
def wakeZones (zs : List (Fin 8)) (s : State) : State := judgeLocks (zs.foldl wakeZone s)

/-- STANDBY of the zones named, then the lock pairs judged again (R97, assumption 15). -/
def standbyZones (zs : List (Fin 8)) (s : State) : State := judgeLocks (zs.foldl standbyZone s)

/-! ### Stored ZONE entries (R88, R89, R99, R100) -/

/-- Every stored field lies in its range (section 5.1). -/
def ZoneStored.inRange (z : ZoneStored) : Bool :=
  decide (z.start ≤ 127) && decide (z.length ≤ 127) && decide (z.setpoint ≤ 2500) && decide (z.standbyPoint ≤ 2500) &&
    decide (5 ≤ z.band) && decide (z.band ≤ 200) && decide (z.band < z.fastThreshold) &&
    decide (z.fastThreshold ≤ 1000) && decide (z.stepFast ≤ 1000) && decide (z.stepSlow ≤ 1000) &&
    decide (z.valveMax ≤ 1000) && decide (z.manualUpper ≤ 1000) && decide (z.manualLower ≤ 1000)

/-- A zone to be enabled fits below K and beside the other enabled zones (R89). -/
def zoneFits (z : Fin 8) (e : ZoneStored) (s : State) : Bool :=
  decide (e.start + e.length ≤ s.lc.record.knife) &&
    zoneIndices.all fun y =>
      !s.zr.zones[y].enabled || decide (y = z) ||
        (if y < z then decide (s.zr.zones[y].stored.start + s.zr.zones[y].stored.length ≤ e.start)
         else decide (e.start + e.length ≤ s.zr.zones[y].stored.start))

/-- Why a ZONE entry is refused, in the order of R88. -/
def zoneRefusal (z : Fin 8) (e : ZoneStored) (s : State) : Option Reason :=
  let old := s.zr.zones[z].stored
  if !e.inRange then some .range
  else if (decide (e.start ≠ old.start) || decide (e.length ≠ old.length)) && decide (s.lc.line ≠ .stopped) then
    some .locked
  else if decide (e.length ≠ 0) && !zoneFits z e s then some .range
  else none

/-- The target change a stored entry makes in a zone that stays enabled and is not SHUT (R99). -/
def Zone.retarget (old : Zone) (z : Zone) : Zone :=
  match z.state with
  | .shut => z
  | .heating | .waking | .ready =>
    if z.stored.setpoint = old.stored.setpoint then z
    else
      { z with target := some z.stored.setpoint, inBand := 0, state := if z.state = .ready then .waking else z.state }
  | .standbySettling | .standby =>
    if z.stored.standbyPoint = old.stored.standbyPoint then z
    else { z with target := some z.stored.standbyPoint, inBand := 0, state := .standbySettling }

/-- A zone disabled by a stored entry (R100). -/
def disableZone (z : Fin 8) (s : State) : State :=
  let t := modifyZone z (fun r => { r with state := .shut, stale := false, target := none, temp := none, inBand := 0 }) s
  setValve z .lower 0 (setValve z .upper 0 t)

/-- A zone enabled by a stored entry (R100). -/
def enableZone (z : Fin 8) (s : State) : State :=
  let t := modifyZone z Zone.retemp s
  let r := t.zr.zones[z]
  if r.noneFresh && (decide (r.upper.fresh = .out) || decide (r.lower.fresh = .out)) then goStale z t else t

/-- A half's valve brought down to a lower valve max (R102). -/
def limitValve (z : Fin 8) (h : Half) (s : State) : State :=
  if s.zr.zones[z].stored.valveMax < (s.zr.zones[z].half h).valve then
    driveValve z h s.zr.zones[z].stored.valveMax s
  else s

/-- A stored entry sets the manual valves again (R103): it sets the manual flag, or changes the manual values or the
valve max while the flag is set. -/
def manualChanged (old new : ZoneStored) : Bool :=
  new.manual && (!old.manual || decide (new.manualUpper ≠ old.manualUpper) || decide (new.manualLower ≠ old.manualLower) ||
    decide (new.valveMax ≠ old.valveMax))

/-- A ZONE entry stored (R88): the target, the enablement, the valves, the lock pair, then the governor (R119). A STALE zone
that stays enabled and is given another start cell or length marks no cell at that moment: R83 marks cells on two occasions
only, though it then says that together they mark each cell that lies in a zone while it is STALE (DESIGN CHOICE,
assumption 64). -/
def storeZone (z : Fin 8) (e : ZoneStored) (s : State) : State :=
  let old := s.zr.zones[z]
  let t := modifyZone z (fun r => { r with stored := e }) s
  let u :=
    if old.enabled && decide (e.length = 0) then disableZone z t
    else if !old.enabled && decide (e.length ≠ 0) then enableZone z t
    else if old.enabled then modifyZone z (Zone.retarget old) t
    else t
  let v := limitValve z .lower (limitValve z .upper u)
  let w := if manualChanged old.stored e && decide (v.zr.zones[z].state ≠ .shut) then driveManual z v else v
  recompute (judgeLock (pairOf z) w)

end Sys2Proof.Machine
end

