-- ==== Sys2Proof/Machine/Line.lean ====
section
/-! DEFINITION. LC: changes of line state, line faults and leaving FAULT (chapter 9). -/
namespace Sys2Proof.Machine

/-- The line states in which the encoders are watched for staleness (R76). -/
def lineWatched (line : LineState) : Bool :=
  match line with
  | .running | .hold | .stopping => true
  | .stopped | .fault => false

/-- PT's part in a change: the watch starts on entry to a watched state from one that is not (R76, R167). -/
def startWatch (old new : LineState) (s : State) : State :=
  if lineWatched new && !lineWatched old then
    { s with pt.infeed.watchStart := s.clock, pt.belt.watchStart := s.clock }
  else s

/-- FS's part in a change (R64): FORMING and HELD follow HOLD. -/
def followHold (new : LineState) (s : State) : State :=
  match s.fs.state with
  | .forming => if new = .hold then { s with fs.state := .held } else s
  | .held => if new = .hold then s else { s with fs.state := .forming }
  | _ => s

/-- ZR's part in a change: standby-on-stop on entry to STOPPED from STOPPING or FAULT (R98). -/
def standbyOnStop (old new : LineState) (s : State) : State :=
  if s.lc.record.standbyOnStop && decide (new = .stopped) && (decide (old = .stopping) || decide (old = .fault)) then
    standbyZones zoneIndices s
  else s

/-- The changes after which PQ runs its admission check (R33, R167). -/
def changeAdmits (old new : LineState) : Bool :=
  match old, new with
  | .hold, .running => true
  | .hold, .stopping => true
  | .fault, .stopped => true
  | _, _ => false

/-- PQ's part in a change (R33). -/
def admitAfter (old new : LineState) (s : State) : State := if changeAdmits old new then admissionCheck s else s

/-- A change of line state taken and handed to SG, FS, PT, ZR and PQ in that order (R167, assumption 9). A piece that
FS needs on entry to RUNNING is started by the caller (R64). -/
def changeLine (new : LineState) (s : State) : State :=
  let old := s.lc.line
  admitAfter old new
    (standbyOnStop old new (startWatch old new (followHold new (recompute { s with lc.line := new }))))

/-- The line taken to STOPPING, as by STOP (R170, R172). -/
def stopLine (s : State) : State := changeLine .stopping { s with lc.restCount := 0 }

/-- The bit of a cause in the further-causes set (R205). -/
def causeBit (c : LineFault) : BitVec 5 := BitVec.twoPow 5 (c.code - 1)

/-- A line fault taken (R173). -/
def lineFault (c : LineFault) (s : State) : State :=
  match s.lc.line with
  | .fault =>
    raise .lineFault { s with lc.further := s.lc.further ||| causeBit c, lc.clearPending := false }
  | _ =>
    changeLine .fault
      (raise .lineFault { s with lc.cause := some c, lc.further := 0, lc.clearPending := false, lc.restCount := 0 })

/-- An encoder record in FAULT re-seeded: its raw count plus the offset is the held position (R77). -/
def EncoderRecord.reseed (e : EncoderRecord) : EncoderRecord :=
  match e.state with
  | .fault => { e with offset := e.held - e.raw, state := .tracking, speed := 0 }
  | _ => e

/-- The line leaves FAULT for STOPPED (R174). -/
def leaveFault (s : State) : State :=
  changeLine .stopped
    { s with
      lc.cause := none, lc.further := 0, lc.clearPending := false
      pt.infeed := s.pt.infeed.reseed, pt.belt := s.pt.belt.reseed }

/-- LC takes the judgement of a good belt sample (R78, R171, R174). -/
def judgeBeltSample (advanced : Bool) (s : State) : State :=
  match s.lc.line with
  | .stopping =>
    if advanced then { s with lc.restCount := 0 }
    else if s.lc.restCount + 1 < 2 then { s with lc.restCount := s.lc.restCount + 1 }
    else changeLine .stopped { s with lc.restCount := 0 }
  | .fault => if s.lc.clearPending && !advanced then leaveFault s else s
  | _ => s

end Sys2Proof.Machine
end

