-- ==== Sys2Proof/Machine/Fold.lean ====
section
/-! DEFINITION. FS: starting pieces, following the infeed, lost folds, starvation and RESTART (chapter 3). -/
namespace Sys2Proof.Machine

/-! ### Starting a piece (R55, R45, R46) -/

/-- The cursor on an item that begins at a position, the ratio kept. -/
def cursorAt (piece : Option Nat) (it : PlanItem) (start formed : Position) (ratio : Ratio) : FoldCursor :=
  { piece := piece, item := it.kind, run := it.run, pleat := it.pleat, itemStart := start, itemFormed := formed
    boundary := advance start it.length, ratio := ratio }

/-- The first item of a plan that occupies any infeed; a plan with none is taken as an empty tail. -/
def firstItem (p : Plan) : PlanItem := (planItems p).headD (flatItem .tail 0 0 0)

/-- The state FS forms in: HELD while the line is in HOLD (R55). -/
def formingState (line : LineState) : FoldState := if line = .hold then .held else .forming

/-- A queued piece started at an infeed position (R55): FORMING, its infeed span, the fold cursor and the ratio; then
SC's search and PQ's admission check. -/
def startPiece (p : Piece) (start : Position) (s : State) : State :=
  let forming := modifyPiece p.id (fun q => { q with state := .forming, span := some (start, advance start q.plan.infeed) }) s
  let it := firstItem p.plan
  let set := { forming with
    fs.state := formingState s.lc.line
    fs.cursor := cursorAt (some p.id) it start s.fs.formed s.fs.cursor.ratio }
  admissionCheck (replanSplice (setRatio (itemRatio it) set))

/-- FS starved of a piece with the queue full (R46, R63, R172): QUEUE_FULL, the cursor without a piece and the recomputes
that brings (R61, R119), then LC. The manual gives the first two no order (DESIGN CHOICE, assumption 61). -/
def starve (s : State) : State :=
  let t := raise .queueFull s
  let u := recomputeInfeed (recompute { t with fs.state := .starved, fs.cursor := FoldCursor.none })
  if u.lc.line = .running ∨ u.lc.line = .hold then stopLine u else u

/-- FS needs a piece, to start at an infeed position (R55): the oldest ADMITTED piece (R41), or filler (R45), or it
starves (R46). -/
def needPiece (start : Position) (s : State) : State :=
  match s.pq.pieces.find? fun p => decide (p.state = .admitted) with
  | some p => startPiece p start s
  | none =>
    if s.pq.pieces.length < Config.queueLimit then startPiece (fillerPiece s) start (appendPiece (fillerPiece s) s)
    else starve s

/-- FS IDLE or STARVED needs a piece as the line enters RUNNING, at the position PT holds (R55, R64). -/
def needOnRunning (s : State) : State :=
  match s.fs.state with
  | .idle | .starved => needPiece s.pt.infeed.held s
  | _ => s

/-- A starved FS told that the queue has gained room (R63). -/
def toldOfRoom (s : State) : State :=
  match s.fs.state with
  | .starved =>
    match s.lc.line with
    | .running | .hold | .stopping => needPiece s.pt.infeed.held s
    | .stopped | .fault => { s with fs.state := .idle }
  | _ => s

/-! ### Folds (R57, R60) -/

/-- The queue's spans moved on by a lost fold: the FORMING piece's belt end, and both ends of every ADMITTED piece
(R60). The lost fold is kept with the piece (R146). -/
def shiftSpans (id : Nat) (f : Position) (n : Nat) (s : State) : State :=
  { s with
    pq.pieces := s.pq.pieces.map fun p =>
      if p.id = id then
        { p with beltEnd := advance p.beltEnd n, flags.foldLost := true, lost := p.lost ++ [(f, n)] }
      else if p.state = .admitted then { p with beltStart := advance p.beltStart n, beltEnd := advance p.beltEnd n }
      else p }

/-- One FOLD sent at a fold point (R57), or dropped at the full blade slot (R60); the formed counter follows. A drop
raises FOLD_LOST before it is handed to SC (R146); the manual gives the two no order (DESIGN CHOICE, assumption 44). -/
def sendFold (id : Nat) (it : PlanItem) (f : Position) (s : State) : State :=
  if bladeCount s.act < Config.bladeLimit then
    placeFold it.left it.right it.dir { s with fs.formed := advance s.fs.formed it.spacing }
  else
    seamLostFold id f (it.left + it.right)
      (raise .foldLost
        (shiftSpans id f (it.left + it.right)
          { s with fs.formed := advance s.fs.formed (it.spacing + it.left + it.right) }))

/-! ### Following the infeed (R56 to R59, R68) -/

/-- The FORMING piece reached its infeed end: FORMED, and FS needs a piece there (R59). -/
def finishPiece (id : Nat) (stop : Position) (s : State) : State :=
  needPiece stop (modifyPiece id (fun q => { q with state := .formed }) s)

/-- The cursor moved to the next item at a boundary; with none left the piece is finished (R57 to R59). -/
def nextItem (id : Nat) (rest : List PlanItem) (b : Position) (s : State) : State :=
  match rest with
  | it :: _ => { s with fs.cursor := cursorAt (some id) it b s.fs.formed s.fs.cursor.ratio }
  | [] => finishPiece id b s

/-- A flat pleat that is not its run's last is followed by another of the same run (R61). -/
def sameFlatRun (c : FoldCursor) (rest : List PlanItem) : Bool :=
  match rest with
  | it :: _ => decide (c.item = .flat) && decide (it.kind = .flat) && decide (it.run = c.run)
  | [] => true

/-- The fold point of a land taken (R57): the FOLD, the cursor on the fold, and the ratio of the next item drawn
(R61). -/
def takeFoldPoint (p : Piece) (rest : List PlanItem) (b : Position) (s : State) : State :=
  match rest with
  | [] => finishPiece p.id b s
  | fold :: after =>
    let sent := sendFold p.id fold b s
    let moved := { sent with fs.cursor := cursorAt (some p.id) fold b sent.fs.formed sent.fs.cursor.ratio }
    match after with
    | it :: _ => setRatio (itemRatio it) moved
    | [] => moved

/-- The end of a lead, flat pleat or tail taken (R58): the formed counter, the next item, and the ratio at the end of a
lead or of a run's last flat pleat (R61). -/
def takeFlatEnd (p : Piece) (rest : List PlanItem) (b : Position) (s : State) : State :=
  let counted := { s with fs.formed := advance s.fs.cursor.itemFormed (distance b s.fs.cursor.itemStart) }
  let moved := nextItem p.id rest b counted
  if sameFlatRun s.fs.cursor rest then moved
  else
    match rest with
    | it :: _ => setRatio (itemRatio it) moved
    | [] => moved

/-- The run-out end taken: the formed counter stands at the SHORT piece's belt end, and FS needs a piece (R68). -/
def takeRunOutEnd (s : State) : State :=
  let c := s.fs.cursor
  needPiece c.boundary { s with fs.formed := advance c.itemFormed (distance c.boundary c.itemStart) }

/-- The next boundary taken (R56). -/
def takeBoundary (s : State) : State :=
  let c := s.fs.cursor
  match c.piece with
  | none => takeRunOutEnd s
  | some id =>
    match findPiece id s with
    | none => s
    | some p =>
      let rest := itemsAfter p.plan c.item c.run c.pleat
      match c.item with
      | .land => takeFoldPoint p rest c.boundary s
      | .fold => nextItem id rest c.boundary s
      | _ => takeFlatEnd p rest c.boundary s

/-- FS follows the infeed in these states (R56, R64). -/
def followsInfeed (st : FoldState) : Bool :=
  match st with
  | .forming | .held => true
  | .idle | .starved => false

/-- Every boundary an infeed position reaches, one after another; `fuel` bounds their number. -/
def takeBoundaries : Nat → Position → State → State
  | 0, _, s => s
  | fuel + 1, x, s =>
    if followsInfeed s.fs.state && reaches x s.fs.cursor.boundary then takeBoundaries fuel x (takeBoundary s) else s

/-- The formed counter brought up to date for the item the infeed position lies in (R56). -/
def updateFormed (x : Position) (s : State) : State :=
  let c := s.fs.cursor
  if followsInfeed s.fs.state && reaches x c.itemStart then
    match c.item with
    | .lead | .flat | .tail | .runOut => { s with fs.formed := advance c.itemFormed (distance x c.itemStart) }
    | .land | .fold => s
  else s

/-- FS takes an infeed-position event (R56). Every item but a fold occupies infeed, so twice the distance to the
position, and some, bounds the boundaries passed. -/
def foldInfeed (x : Position) (s : State) : State :=
  if followsInfeed s.fs.state then
    updateFormed x (takeBoundaries (2 * distance x s.fs.cursor.itemStart + 4) x s)
  else s

/-! ### RESTART (R65 to R69) -/

/-- What RESTART ends: the FORMING piece in hand, if any (R65). -/
def pieceInHand (s : State) : Option Piece :=
  if followsInfeed s.fs.state then s.fs.cursor.piece.bind fun id => findPiece id s else none

/-- The formed counter completed for the item the infeed lies in when a piece is ended (R66). -/
def completedFormed (x : Position) (s : State) : Position :=
  match s.fs.cursor.item with
  | .land => advance s.fs.formed (distance x s.fs.cursor.itemStart)
  | _ => s.fs.formed

/-- What is still to be drawn of a fold sent whole (R66). -/
def foldRest (x : Position) (s : State) : Nat :=
  match s.fs.cursor.item with
  | .fold => distance s.fs.cursor.boundary x
  | _ => 0

/-- The newest cell at or after a piece's belt start among those that name it or an ADMITTED piece (R66). -/
def newestOwnCell (p : Piece) (s : State) : Option BeltCell :=
  s.cl.find? fun c =>
    reaches c.formed p.beltStart &&
      (decide (c.piece = some p.id) || (admittedPieces s).any fun q => decide (c.piece = some q.id))

/-- The belt end of a piece ended SHORT (R66). -/
def shortEnd (p : Piece) (formed : Position) (s : State) : Position :=
  match newestOwnCell p s with
  | some c => laterPosition (advance c.formed Config.cellUnits) formed
  | none => formed

/-- The FORMING piece ended SHORT at an infeed position (R66, R148). The run-out has no run and no pleat; the cursor
holds 0 in both (DESIGN CHOICE, assumption 17). The ratio and its recompute come before the check of SPLICE_FORCED; the
manual gives them no order (DESIGN CHOICE, assumption 53). -/
def endShort (p : Piece) (x : Position) (s : State) : State :=
  let formed := completedFormed x s
  let rest := foldRest x s
  let stop := shortEnd p formed s
  let runOut := distance stop formed
  let infeedEnd := advance x (rest + runOut)
  let ended := modifyPiece p.id
    (fun q =>
      { q with
        beltEnd := stop, span := q.span.map fun sp => (sp.1, infeedEnd), state := .formed, flags.short := true
        cut := some (x, rest) }) s
  let moved := { ended with
    fs.formed := formed
    fs.cursor := cursorAt none (flatItem .runOut 0 0 runOut) (advance x rest) formed s.fs.cursor.ratio }
  rejudgeShort p.id (setRatio .flat moved)

/-- Step 3 of RESTART: HOLD with pause-on-restart set and the line RUNNING, otherwise the admission check (R69). -/
def restartResume (s : State) : State :=
  if s.lc.record.pauseOnRestart && decide (s.lc.line = .running) then changeLine .hold s
  else replanSplice (admissionCheck s)

/-- A run-out of no length: its end is the infeed position, so FS needs the piece within the RESTART (R68). -/
def restartNeed (x : Position) (s : State) : State :=
  if followsInfeed s.fs.state && decide (s.fs.cursor.piece = none) && decide (s.fs.cursor.boundary = x) then takeRunOutEnd s
  else s

/-- RESTART carried out whole (R65): the state after it. -/
def restartLine (s : State) : State :=
  let x := s.pt.infeed.held
  match pieceInHand s with
  | some p => restartNeed x (restartResume (removeAdmitted (some p.id) (endShort p x s)))
  | none => restartResume (removeAdmitted none s)

end Sys2Proof.Machine
end

