-- ==== Sys2Proof/Machine/TakeUp.lean ====
section
/-! DEFINITION. TC: the manifest, the cut conditions, cuts and the roll change (chapter 8). -/
namespace Sys2Proof.Machine

/-- A diameter threshold met: not 0, and the diameter present and at or above it (R155). -/
def thresholdMet (limit : Nat) (diameter : Option Nat) : Bool :=
  match diameter with
  | some d => decide (limit ≠ 0) && decide (limit ≤ d)
  | none => false

/-- The count condition (R155). -/
def manifestFull (m : Manifest) : Bool := decide (Config.manifestLimit ≤ m.ids.length)

/-- TC judges its three conditions (R155). -/
def judgeCut (s : State) : State :=
  let hard := thresholdMet s.lc.record.hardFull s.tc.diameter
  let full := thresholdMet s.lc.record.fullDiameter s.tc.diameter || manifestFull s.tc.current
  match s.tc.winder with
  | .winding =>
    if hard then { s with tc.winder := .cutPending, tc.forced := true }
    else if full then { s with tc.winder := .cutPending }
    else s
  | .cutPending => if hard then { s with tc.forced := true } else s
  | .cutting | .indexing => s

/-- The roll number after a roll number: 65535 is followed by 1 (R152). -/
def nextRoll (n : Nat) : Nat := if 65535 ≤ n then 1 else n + 1

/-- A retirement is at a piece boundary (R153). -/
def atBoundary (piece current : Option Nat) : Bool := piece.isNone || decide (piece ≠ current)

/-- The panel piece a cell names, if it names one. -/
def panelOf (piece : Option Nat) (s : State) : Option Piece :=
  (piece.bind fun id => findPiece id s).filter Piece.isPanel

/-- The order of a panel piece (section 8.2). -/
def orderOf (p : Piece) : Option (Fin 8 × BitVec 8) := p.slot.map fun i => (i, p.load)

/-- Step 2 of R154: an order boundary judged (R156). -/
def judgeOrder (boundary : Bool) (piece : Option Nat) (s : State) : State :=
  match panelOf piece s with
  | some p =>
    if boundary && s.lc.record.perOrder && s.tc.lastOrder.isSome && decide (s.tc.lastOrder ≠ orderOf p) then
      match s.tc.winder with
      | .winding => { s with tc.winder := .cutPending }
      | .cutPending => s
      | .cutting | .indexing => { s with tc.heldOrder := true }
    else s
  | none => s

/-- CUT placed with the roll counter (step 1 of R157). -/
def placeCut (s : State) : State := placeAct .knife (.cut s.tc.current.roll) s

/-- Steps 2 to 6 of R157. -/
def rollOver (s : State) : State :=
  { s with
    tc.closing := some s.tc.current
    tc.current := { roll := nextRoll s.tc.current.roll, ids := [], unlisted := 0 }
    tc.forced := false, tc.heldOrder := false, tc.winder := .cutting, tc.stateTime := some s.clock
    tc.timeoutTaken := false }

/-- A boundary cut (R157). -/
def boundaryCut (s : State) : State := rollOver (placeCut s)

/-- A forced cut through a piece (R158). -/
def forcedCut (id : Nat) (s : State) : State :=
  let marked := modifyPiece id (fun q => { q with flags.cutForced := true, flags.split := true }) (placeCut s)
  let t := rollOver (raise .cutForced marked)
  { t with tc.current.ids := [id] }

/-- Step 3 of R154. -/
def fireCut (boundary : Bool) (piece : Option Nat) (s : State) : State :=
  match s.tc.winder with
  | .cutPending =>
    if boundary then boundaryCut s
    else if s.tc.forced then
      match piece with
      | some id => forcedCut id s
      | none => s
    else s
  | _ => s

/-- An id listed in a manifest, or counted in its unlisted count when it holds 64 (R154). -/
def Manifest.list (m : Manifest) (id : Nat) : Manifest :=
  if m.ids.length < Config.manifestLimit then { m with ids := m.ids ++ [id] } else { m with unlisted := m.unlisted + 1 }

/-- Step 4 of R154. -/
def listPiece (boundary : Bool) (piece : Option Nat) (s : State) : State :=
  match boundary, piece with
  | true, some id =>
    { s with
      tc.current := s.tc.current.list id
      tc.lastOrder :=
        match panelOf piece s with
        | some p => orderOf p
        | none => s.tc.lastOrder }
  | _, _ => s

/-- TC takes a retirement (R154). Step 6 judges all three conditions, as R155 states, though R154 names the manifest
condition alone (DEDUCED, assumption 46). -/
def takeUpRetire (piece : Option Nat) (s : State) : State :=
  let boundary := atBoundary piece s.tc.currentPiece
  let t := listPiece boundary piece (fireCut boundary piece (judgeOrder boundary piece s))
  judgeCut { t with tc.currentPiece := piece }

/-- The frames of a ROLL notice for a list of ids cut in parts of 24, numbered from `frame` (R162). -/
def rollFrames (m : Manifest) (frames : Nat) : Nat → List (List Nat) → List Report
  | _, [] => []
  | frame, ids :: rest =>
    .roll m.roll frame frames m.ids.length m.unlisted ids :: rollFrames m frames (frame + 1) rest

/-- A list cut in parts of at most `n`, at most `fuel` of them. -/
def chunks {α : Type} (n : Nat) : Nat → List α → List (List α)
  | 0, _ => []
  | fuel + 1, xs => if xs.isEmpty then [] else xs.take n :: chunks n fuel (xs.drop n)

/-- The parts of 24 ids of a manifest; an empty manifest gives one part with no ids (R162). -/
def rollParts (ids : List Nat) : List (List Nat) :=
  if ids.isEmpty then [[]] else chunks Config.rollFrameIds ids.length ids

/-- The ROLL notice of a manifest (R162). -/
def rollNotice (m : Manifest) : List Report :=
  let parts := rollParts m.ids
  rollFrames m parts.length 1 parts

/-- A CUT DONE awaited completes the cut (R159). -/
def completeCut (s : State) : State :=
  let noticed :=
    match s.tc.closing with
    | some m => (rollNotice m).foldl (fun t r => placeReport r t) s
    | none => s
  let t := raise .cutDone noticed
  let u := placeAct .turret (.index t.tc.current.roll) { t with tc.closing := none }
  { u with tc.winder := .indexing, tc.stateTime := some u.clock, tc.timeoutTaken := false }

/-- An INDEXED awaited completes the roll change (R160). -/
def completeIndex (s : State) : State :=
  judgeCut
    { s with
      tc.diameter := none, tc.winder := if s.tc.heldOrder then .cutPending else .winding, tc.heldOrder := false
      tc.stateTime := none, tc.timeoutTaken := false }

/-- The report a take-up status VALUE makes, if any (R151). -/
def takeUpReport (value : BitVec 32) : Option TakeUpReport :=
  match value.toNat with
  | 0 => some .ready
  | 1 => some .busy
  | 2 => some .cutDone
  | 3 => some .indexed
  | _ => none

/-- A take-up status report taken (R151). -/
def takeUpStatus (r : TakeUpReport) (s : State) : State :=
  let t := { s with tc.lastStatus := some r }
  match r, t.tc.winder with
  | .cutDone, .cutting => completeCut t
  | .indexed, .indexing => completeIndex t
  | _, _ => t

/-- The take-up timeout is due (R161). -/
def cutDue (tc : TakeUpController) (now : Clock) : Bool :=
  !tc.timeoutTaken && (decide (tc.winder = .cutting) || decide (tc.winder = .indexing)) &&
    match tc.stateTime with
    | some t => decide (Config.cutTimeoutMs ≤ elapsed now t)
    | none => false

end Sys2Proof.Machine
end

