-- ==== Sys2Proof/Machine/Cells.lean ====
section
/-! DEFINITION. CL, DA's verdicts and PQ's head test: belt advances, new cells and retirements (chapter 4, sections 2.6
and 6.3). -/
namespace Sys2Proof.Machine

/-! ### Judging (R115 to R117) -/

/-- The dose a cell requires (R115). -/
def requiredDose (k : ClassRecord) (seam : Bool) : Nat := if seam then k.dmin * (1000 + k.splice) / 1000 else k.dmin

/-- The verdict of a cell of a panel piece (R115). -/
def cellVerdict (k : ClassRecord) (c : BeltCell) : Verdict :=
  if k.dmax < c.dose then .over
  else if c.dose < requiredDose k c.seam then .under
  else if c.uncertain then .uncertain
  else .good

/-- How bad a verdict is (R116). -/
def Verdict.rank : Verdict → Nat
  | .over => 3 | .under => 2 | .uncertain => 1 | .good => 0 | .filler => 0

/-- The worse of two verdicts (R116). -/
def worseVerdict (a b : Verdict) : Verdict := if a.rank < b.rank then b else a

/-- A piece's doses with one cell's dose taken in (R116). -/
def mergeDose (doses : Option (Nat × Nat)) (d : Nat) : Option (Nat × Nat) :=
  match doses with
  | some (low, high) => some (min low d, max high d)
  | none => some (d, d)

/-- The event flag a cell verdict raises (R117). -/
def raiseVerdict (v : Verdict) (s : State) : State :=
  match v with
  | .over => raise .doseOver s
  | .under => raise .doseUnder s
  | _ => s

/-- DA takes a retirement (R115 to R117). -/
def doseRetire (c : BeltCell) (s : State) : State :=
  match c.piece.bind fun id => findPiece id s with
  | none => s
  | some p =>
    if p.isPanel then
      let v := cellVerdict (classOf p s) c
      raiseVerdict v
        (modifyPiece p.id (fun q => { q with doses := mergeDose q.doses c.dose, verdict := worseVerdict q.verdict v }) s)
    else modifyPiece p.id (fun q => { q with doses := mergeDose q.doses c.dose }) s

/-! ### Completion at the head (R43, R44, R85) -/

/-- The verdict as it becomes final (R43). -/
def finalVerdict (p : Piece) : Verdict := if p.isPanel && p.doses.isNone then .uncertain else p.verdict

/-- The PIECE notice of a piece (R44). -/
def pieceNotice (p : Piece) : Report :=
  .piece p.id p.slot (finalVerdict p) p.doses p.flags (p.seam.map SeamRecord.offset)

/-- The cells that name a removed head set to none, with TRACK_GAP (R85). -/
def forgetPiece (id : Nat) (s : State) : State :=
  raiseIf (s.cl.any fun c => decide (c.piece = some id)) .trackGap
    { s with cl := s.cl.map fun c => if c.piece = some id then { c with piece := none } else c }

/-- The head reported and removed; the queue has gained room (R44). The record leaves after its notice; then the cells
that name it and TRACK_GAP (R85), the governor's recompute (R119), the admission check, and a starved FS told. The manual
gives TRACK_GAP, the recompute and the check no order (DESIGN CHOICE, assumption 49). -/
def removeHead (p : Piece) (s : State) : State :=
  let noticed := placeReport (pieceNotice p) s
  toldOfRoom (admissionCheck (recompute (forgetPiece p.id { noticed with pq.pieces := noticed.pq.pieces.tail })))

/-- The head is DONE at the retirement of a cell at `c` (R43). -/
def headDone (p : Piece) (c : Position) : Bool :=
  decide (p.state = .formed) && reaches (advance c Config.cellUnits) p.beltEnd

/-- The head test, repeated on each new head until it fails (R43). A head that passes is removed with all that its
removal brings, the admission check and a starved FS told, before the new head is tested: the manual does not say whether
these come before that test or after the last removal (DESIGN CHOICE, assumption 55). -/
def testHead : Nat → Position → State → State
  | 0, _, s => s
  | fuel + 1, c, s =>
    match s.pq.pieces with
    | p :: _ => if headDone p c then testHead fuel c (removeHead p s) else s
    | [] => s

/-! ### Belt advance (R81 to R84) -/

/-- A retired cell handed to DA, TC and PQ in order (R84). -/
def retireCell (c : BeltCell) (s : State) : State :=
  let t := takeUpRetire c.piece (doseRetire c s)
  testHead t.pq.pieces.length c.formed t

/-- The cell of the highest index, if it is K or more (R81). -/
def retiring (s : State) : Option BeltCell :=
  match s.cl.getLast? with
  | some c => if s.lc.record.knife ≤ c.index then some c else none
  | none => none

/-- Step 2 of R81: every cell at K or beyond retires, highest index first. -/
def retireCells : Nat → State → State
  | 0, s => s
  | fuel + 1, s =>
    match retiring s with
    | some c => retireCells fuel (retireCell c { s with cl := s.cl.dropLast })
    | none => s

/-- The piece whose belt span contains a formed position (R82). -/
def pieceAt (x : Position) (s : State) : Option Piece := s.pq.pieces.find? fun p => spanContains p.beltStart p.beltEnd x

/-- Some piece's seam lies in the 1000 units from a formed position (R82). -/
def seamAt (x : Position) (s : State) : Bool :=
  s.pq.pieces.any fun p =>
    match p.seamFormed with
    | some f => decide (distance f x < Config.cellUnits)
    | none => false

/-- Step 3 of R81: a new cell at index 0 (R82). -/
def createCell (s : State) : State :=
  let piece := (pieceAt s.fs.formed s).map Piece.id
  let cell : BeltCell :=
    { index := 0, formed := s.fs.formed, piece := piece, dose := 0, residue := 0, seam := seamAt s.fs.formed s
      uncertain := false }
  raiseIf piece.isNone .trackGap { s with cl := cell :: s.cl }

/-- The formed position of the cell that reaches the last zone end at an advance (R121). -/
def exitCell (s : State) : Option Position :=
  if lastZoneEnd s = 0 then none
  else (s.cl.find? fun c => decide (c.index = lastZoneEnd s)).map BeltCell.formed

/-- The advance handed to SG with the cell at the tunnel exit, if any (R121, R119). -/
def governAdvance (exit : Option Position) (s : State) : State :=
  match exit with
  | some f => recompute { s with sg.exitMark := some f }
  | none => recompute s

/-- A cell index lies in a STALE zone (R83). -/
def inStaleZone (index : Nat) (s : State) : Bool :=
  zoneIndices.any fun z => s.zr.zones[z].stale && s.zr.zones[z].covers index

/-- Step 4 of R81: cells in STALE zones marked UNCERTAIN. -/
def markStaleZones (s : State) : State :=
  { s with cl := s.cl.map fun c => if inStaleZone c.index s then { c with uncertain := true } else c }

/-- Step 1 of R81. -/
def ageCells (s : State) : State := { s with cl := s.cl.map fun c => { c with index := c.index + 1 } }

/-- One belt-advance event (R81). -/
def beltAdvance (s : State) : State :=
  let aged := ageCells s
  markStaleZones (governAdvance (exitCell aged) (createCell (retireCells aged.cl.length aged)))

end Sys2Proof.Machine
end

