-- ==== Sys2Proof/Machine/Track.lean ====
section
/-! DEFINITION. PT: encoder samples and encoder staleness (section 4.2, section 4.3). -/
namespace Sys2Proof.Machine

/-- One encoder's record. -/
def encoderOf (e : Encoder) (pt : Tracker) : EncoderRecord :=
  match e with
  | .infeed => pt.infeed
  | .belt => pt.belt

/-- One encoder's record changed. -/
def setEncoder (e : Encoder) (r : EncoderRecord) (s : State) : State :=
  match e with
  | .infeed => { s with pt.infeed := r }
  | .belt => { s with pt.belt := r }

/-- The position of a sample (R73). -/
def samplePosition (r : EncoderRecord) (x : Sample) : Position := x.value + r.offset

/-- The speed of an applied sample (R73). An advance of 0 gives 0, whatever the stamps (assumption 12). -/
def appliedSpeed (r : EncoderRecord) (x : Sample) (moved : Nat) : Nat :=
  if moved = 0 then 0
  else if (x.stamp - r.lastStamp).toNat = 0 then r.speed
  else moved * 100 / (x.stamp - r.lastStamp).toNat

/-- What every good sample does to its record: the raw count and the last arrival (R73). -/
def EncoderRecord.noted (r : EncoderRecord) (x : Sample) : EncoderRecord :=
  { r with raw := x.value, lastArrival := x.time }

/-- What a good sample comes to (R73 to R75). -/
inductive SampleTaking where
  | seeds | jumps | reverses | applies | ignored
deriving DecidableEq, Repr

/-- The taking of a good sample by the record's state, then the jump check, then the reverse check (R73). -/
def takingOf (r : EncoderRecord) (x : Sample) : SampleTaking :=
  match r.state with
  | .unseen => .seeds
  | .fault => .ignored
  | .tracking | .stale =>
    if (Config.jumpLimit : Int) < signedDiff (samplePosition r x) r.held then .jumps
    else if signedDiff (samplePosition r x) r.held < 0 then .reverses
    else .applies

/-- The record after a good sample (R73 to R75). -/
def EncoderRecord.take (r : EncoderRecord) (x : Sample) : EncoderRecord :=
  match takingOf r x with
  | .seeds =>
    { r.noted x with state := .tracking, held := samplePosition r x, lastStamp := x.stamp, speed := 0 }
  | .jumps => { r.noted x with state := .fault }
  | .reverses => { r.noted x with state := .tracking }
  | .applies =>
    { r.noted x with
      state := .tracking, held := samplePosition r x, lastStamp := x.stamp
      speed := appliedSpeed r x (distance (samplePosition r x) r.held) }
  | .ignored => r.noted x

/-- An infeed-position event: to SC, then to FS (R79, assumption 8). SC takes it first, so that a seam the event reaches
is laid in its piece before FS leaves that piece (R147). -/
def infeedEvent (x : Position) (s : State) : State := foldInfeed x (spliceInfeed x s)

/-- How many boundaries an applied belt position reaches (R80). -/
def boundariesReached (held next : Position) : Nat :=
  if reaches held next then distance held next / Config.cellUnits + 1 else 0

/-- `n` belt-advance events, each taken whole before the next (R80). -/
def beltAdvances : Nat → State → State
  | 0, s => s
  | n + 1, s =>
    beltAdvances n (beltAdvance { s with pt.nextBoundary := advance s.pt.nextBoundary Config.cellUnits })

/-- A good infeed sample (R73 to R75, R79). -/
def takeInfeedSample (x : Sample) (s : State) : State :=
  let r := s.pt.infeed
  let t := setEncoder .infeed (r.take x) s
  match takingOf r x with
  | .jumps => lineFault .encoderJump t
  | .reverses => raise .reverse t
  | .applies => if samplePosition r x = r.held then t else infeedEvent (samplePosition r x) t
  | .seeds | .ignored => t

/-- A good belt sample shows an advance (R78). -/
def showsAdvance (r : EncoderRecord) (x : Sample) : Bool := decide (0 < signedDiff x.value r.raw)

/-- A good belt sample (R73 to R75, R78, R80): the record, then REVERSE if the sample raises it, then the judgement
handed to LC, then the line fault of a jump, or the belt advances of an applied sample. The manual gives the parts no
order (DESIGN CHOICE, assumption 10). -/
def takeBeltSample (x : Sample) (s : State) : State :=
  let r := s.pt.belt
  let t := setEncoder .belt (r.take x) s
  match takingOf r x with
  | .seeds => { t with pt.nextBoundary := advance (samplePosition r x) Config.cellUnits }
  | .jumps => lineFault .encoderJump (judgeBeltSample (showsAdvance r x) t)
  | .reverses => judgeBeltSample (showsAdvance r x) (raise .reverse t)
  | .ignored => judgeBeltSample (showsAdvance r x) t
  | .applies =>
    let u := judgeBeltSample (showsAdvance r x) t
    beltAdvances (boundariesReached (samplePosition r x) u.pt.nextBoundary) u

/-- The stale check of a record has run out (R76): measured from the later of its last arrival and its watch start, in the
line states that watch it and so not in STOPPED, though R171 speaks of a fault cause taken there (DEDUCED,
assumption 47). -/
def encoderDue (line : LineState) (r : EncoderRecord) (now : Clock) : Bool :=
  decide (r.state = .tracking) && lineWatched line &&
    decide (Config.encoderStaleMs ≤ min (elapsed now r.lastArrival) (elapsed now r.watchStart))

/-- A record goes STALE (R76). -/
def expireEncoder (e : Encoder) (s : State) : State :=
  lineFault .encoderStale (setEncoder e { encoderOf e s.pt with state := .stale } s)

end Sys2Proof.Machine
end

