-- ==== Sys2Proof/Machine/Tables.lean ====
section
/-! DEFINITION. MU's table writes: what each table's entry does when it is taken, the open write and its closes
(sections 10.3, 2.1, 6.1, 9.5 and 11.2). -/
namespace Sys2Proof.Machine

/-! ### Entries (R2, R26, R88, R108, R176, R184) -/

/-- An entry stored, or refused with its reason. -/
inductive EntryTaken where
  | stored (s : State)
  | refused (reason : Reason)

/-- A PATTERN entry (R2, R194). -/
def takePattern (index : Nat) (bs : List Byte) (s : State) : EntryTaken :=
  .stored { s with px.mem := writeEntry s.px.mem index (cleanEntry bs) }

/-- A valid NODE MAP entry's fields lie out of range (R184). -/
def nodeOutOfRange (e : NodeEntry) (s : State) : Bool :=
  decide (e.node = 0) || decide (e.node = s.rp.address) || e.binds.isNone

/-- Another valid entry binds the same role or the same pair (R184). -/
def nodeClashes (index : Fin 64) (e : NodeEntry) (s : State) : Bool :=
  (List.range 64).any fun i =>
    decide (i ≠ index.val) &&
      match s.nm.toList[i]? with
      | some o => o.valid && (decide (o.binds = e.binds) || (decide (o.node = e.node) && decide (o.channel = e.channel)))
      | none => false

/-- A NODE MAP entry (R184). -/
def takeNode (index : Fin 64) (bs : List Byte) (s : State) : EntryTaken :=
  let e := NodeEntry.ofBytes bs
  if s.lc.line ≠ .stopped then .refused .locked
  else if e.valid && nodeOutOfRange e s then .refused .range
  else if e.valid && nodeClashes index e s then .refused .range
  else .stored { s with nm := s.nm.set index e }

/-- A CLASS entry's fields lie in range, Dmin not above Dmax (R107, R108). -/
def ClassRecord.legal (c : ClassRecord) : Bool :=
  decide (c.tbase ≤ 2500) && decide (c.dmin ≤ 16777215) && decide (c.dmax ≤ 16777215) && decide (c.margin ≤ 500) &&
    decide (c.splice ≤ 1000) && decide (c.dmin ≤ c.dmax)

/-- A CLASS entry (R108). -/
def takeClass (index : Fin 16) (bs : List Byte) (s : State) : EntryTaken :=
  let c := ClassRecord.ofBytes bs
  if c.legal then .stored (recompute { s with da.classes := s.da.classes.set index c }) else .refused .range

/-- A ZONE entry (R88). -/
def takeZone (index : Fin 8) (bs : List Byte) (s : State) : EntryTaken :=
  match zoneRefusal index (ZoneStored.ofBytes bs) s with
  | some reason => .refused reason
  | none => .stored (storeZone index (ZoneStored.ofBytes bs) s)

/-- The line record's legal values, cross-conditions included (section 9.5). -/
def LineRecord.legal (r : LineRecord) (zoneEnd : Nat) : Bool :=
  decide (20 ≤ r.crawl) && decide (r.crawl ≤ 200) && decide (r.crawl ≤ r.beltMax) && decide (r.beltMax ≤ 1000) &&
    decide (r.beltMax ≤ r.infeedMax) && decide (r.infeedMax ≤ 1500) && decide (r.setpoint ≤ 1000) &&
    decide (r.spliceDistance ≤ 200000) && decide (r.reactionMargin ≤ 50000) && decide (r.seamMargin ≤ 5000) &&
    decide (r.spliceHorizon ≤ 400000) && decide (r.spliceDiameter ≤ 2000) &&
    decide (r.forcedDiameter ≤ r.spliceDiameter) && decide (r.fullDiameter ≤ 2000) && decide (r.hardFull ≤ 2000) &&
    (decide (r.fullDiameter = 0) || decide (r.hardFull = 0) || decide (r.fullDiameter ≤ r.hardFull)) &&
    decide (zoneEnd ≤ r.knife) && decide (1 ≤ r.knife) && decide (r.knife ≤ 128) && decide (3000 ≤ r.fillerLength) &&
    decide (r.fillerLength ≤ 20000) && decide (1 ≤ r.depth) && decide (r.depth ≤ 4)

/-- A line record stored and handed to the blocks that read it: PQ, SG, SC, TC in the order in which R177 lists them
(R176, R177; the manual states none among them: DESIGN CHOICE, assumption 51). -/
def storeLine (r : LineRecord) (s : State) : State :=
  judgeCut (replanSplice (judgeSplicer (recompute (admissionCheck { s with lc.record := r, lc.valid := true }))))

/-- A LINE entry (R176). -/
def takeLine (bs : List Byte) (s : State) : EntryTaken :=
  let r := (LineRecord.ofBytes bs).1
  if s.lc.line ≠ .stopped then .refused .locked
  else if r.legal (lastZoneEnd s) && decide ((LineRecord.ofBytes bs).2 ≤ 15) then .stored (storeLine r s)
  else .refused .range

/-- An ORDER entry (R26). -/
def takeOrder (index : Fin 8) (bs : List Byte) (s : State) : EntryTaken :=
  let o := OrderSlot.ofBytes bs
  let load := s.pq.slots[index].load + 1
  if s.pq.runList.contains index then .refused .locked
  else if o.requested = 0 then .stored (modifySlot index (fun _ => { OrderSlot.reset with load := load }) s)
  else if 9999 < o.requested then .refused .range
  else if o.requested ≤ o.done then .refused .range
  else if o.dtype = .flat ∧ ¬(3000 ≤ o.flatLength ∧ o.flatLength ≤ 200000) then .refused .range
  else .stored (modifySlot index (fun _ => { o with load := load }) s)

/-- An entry taken at an index by the rule of its table (R200). The index is below the table's record count. -/
def takeEntry (t : Table) (index : Nat) (bs : List Byte) (s : State) : EntryTaken :=
  match t with
  | .pattern => takePattern index bs s
  | .nodeMap => takeNode (Fin.ofNat 64 index) bs s
  | .classes => takeClass (Fin.ofNat 16 index) bs s
  | .zones => takeZone (Fin.ofNat 8 index) bs s
  | .line => takeLine bs s
  | .orders => takeOrder (Fin.ofNat 8 index) bs s

/-! ### The open write (R197 to R202) -/

/-- The remaining count of a write (R197). -/
def OpenWrite.remaining (w : OpenWrite) : Nat := w.requested - w.stored

/-- The data of a write's response: the write pointer and stored (section 11.1). -/
def OpenWrite.data (w : OpenWrite) : List Byte := beBytes 2 w.pointer ++ byte w.stored

/-- How taking the entries of a frame ended (R200). -/
inductive WriteEnd where
  | open
  | done (leftOver : Bool)
  | broken (reason : Reason)
deriving DecidableEq, Repr

/-- The entries of a frame taken one by one, at most `n` of them (R200). -/
def takeEntries : Nat → OpenWrite → List Byte → State → State × OpenWrite × WriteEnd
  | 0, w, bs, s => (s, w, if bs.isEmpty then .open else .broken .length)
  | n + 1, w, bs, s =>
    if bs.isEmpty then (s, w, .open)
    else if bs.length < w.table.size then (s, w, .broken .length)
    else
      match takeEntry w.table w.pointer (bs.take w.table.size) s with
      | .refused reason => (s, w, .broken reason)
      | .stored t =>
        let w' := { w with pointer := w.pointer + 1, stored := w.stored + 1 }
        if w'.requested ≤ w'.stored then (t, w', .done !(bs.drop w.table.size).isEmpty)
        else takeEntries n w' (bs.drop w.table.size) t

/-- The open write set or ended. -/
def setOpenWrite (w : Option OpenWrite) (s : State) : State := { s with mu.openWrite := w }

/-- A close reported in the response of the frame that caused it (R197). -/
def closeInResponse (code : Nat) (rq : Request) (w : OpenWrite) (reason : Reason) (s : State) : State :=
  respond code rq .partialClose reason w.remaining w.data (setOpenWrite none s)

/-- A frame's entries taken and the frame answered (R200). -/
def takeFrame (code : Nat) (rq : Request) (w : OpenWrite) (bs : List Byte) (s : State) : State :=
  match takeEntries 3 w bs s with
  | (t, w', .open) =>
    respond code rq .done .none w'.remaining w'.data (setOpenWrite (some { w' with lastFrame := rq.time }) t)
  | (t, w', .done leftOver) =>
    respond code rq .done (if leftOver then .length else .none) w'.remaining w'.data (setOpenWrite none t)
  | (t, w', .broken reason) => closeInResponse code rq w' reason t

/-- A closing response queued for the source of a write (R197). -/
def queueClosing (w : OpenWrite) (reason : Reason) (s : State) : State :=
  placeReport (.response w.source 1 w.tag .partialClose reason w.remaining w.data) (setOpenWrite none s)

/-- The write of a source is open. -/
def ownsWrite (src : Byte) (s : State) : Bool :=
  match s.mu.openWrite with
  | some w => decide (w.source = src)
  | none => false

/-- The open write of a source broken by another request of its own (R198). -/
def breakWrite (src : Byte) (reason : Reason) (s : State) : State :=
  match s.mu.openWrite with
  | some w => if w.source = src then queueClosing w reason s else s
  | none => s

/-- A WRITE opened: its frame's table, first index, count and entries (R199). -/
def openWriteFor (rq : Request) (t : Table) : OpenWrite :=
  { source := rq.src, table := t, tag := rq.tag, requested := field rq.args 3 1, pointer := field rq.args 1 2
    stored := 0, lastFrame := rq.time }

/-- WRITE after the checks of R196 (R199). R199 gives the answer to a WRITE while another source's write is open as BUSY and
no more; its reason none, COUNT 0 and no data are those of the BUSY that R196 describes (DEDUCED, assumption 63). -/
def serveWrite (rq : Request) (s : State) : State :=
  if s.mu.openWrite.isSome then respond 1 rq .busy .none 0 [] s
  else
    match Table.ofCode (field rq.args 0 1) with
    | none => refuse 1 rq .range s
    | some t =>
      if field rq.args 3 1 = 0 then refuse 1 rq .range s
      else if t.records < field rq.args 1 2 + field rq.args 3 1 then refuse 1 rq .range s
      else takeFrame 1 rq (openWriteFor rq t) (rq.args.drop 4) s

/-- CONTINUE (R201). -/
def serveContinue (rq : Request) (s : State) : State :=
  match s.mu.openWrite with
  | none => refuse 2 rq .sequence s
  | some w =>
    if w.source ≠ rq.src then refuse 2 rq .sequence s
    else if rq.args.length < 2 then closeInResponse 2 rq w .length s
    else if field rq.args 0 2 ≠ w.pointer then closeInResponse 2 rq w .sequence s
    else takeFrame 2 rq w (rq.args.drop 2) s

/-- CLOSE (R202). -/
def serveClose (rq : Request) (s : State) : State :=
  match s.mu.openWrite with
  | some w => if w.source = rq.src then closeInResponse 3 rq w .none s else refuse 3 rq .sequence s
  | none => refuse 3 rq .sequence s

/-- The open write's timer has run out (R198). -/
def writeDue (s : State) : Option OpenWrite :=
  s.mu.openWrite.filter fun w => decide (Config.writeTimeoutMs ≤ elapsed s.clock w.lastFrame)

/-- The expiry of the open write (R198). -/
def expireWrite (s : State) : State :=
  match writeDue s with
  | some w => queueClosing w .sequence s
  | none => s

end Sys2Proof.Machine
end

