-- ==== Sys2Proof/Machine/Reads.lean ====
section
/-! DEFINITION. READ and STATUS: the records of every table and view, the stream of a READ cut into frames, and the
three STATUS pages (sections 11.3 and 11.4). -/
namespace Sys2Proof.Machine

/-! ### Records of tables 1..6 (R3, R183, R107, R90, R176, R27) -/

/-- One record of a table in its read form. The index is below the table's record count. -/
def tableRecord (t : Table) (i : Nat) (s : State) : List Byte :=
  match t with
  | .pattern => readEntry s.px.mem i
  | .nodeMap => s.nm[Fin.ofNat 64 i].bytes
  | .classes => s.da.classes[Fin.ofNat 16 i].bytes
  | .zones => s.zr.zones[Fin.ofNat 8 i].bytes
  | .line => s.lc.record.bytes s.lc.valid
  | .orders => s.pq.slots[Fin.ofNat 8 i].bytes

/-! ### Records of the views (sections 10.10 and 11.3) -/

/-- The presence byte of a PIECE QUEUE record. -/
def presenceByte (p : Piece) : Nat := bitByte 0 p.span.isSome + bitByte 1 p.seam.isSome + bitByte 2 p.doses.isSome

/-- The plan part of a PIECE QUEUE record. -/
def Plan.bytes (p : Plan) : List Byte :=
  byte (bitByte 7 p.mirror + p.runs.length) ++ byte p.cls.val ++ beBytes 2 p.tail ++ beBytes 3 p.infeed ++
    beBytes 3 p.belt ++ p.runs.flatMap fun r => r.block ++ byte (bitByte 0 r.flat)

/-- One PIECE QUEUE record (R204); absent fields read 0. -/
def Piece.bytes (p : Piece) : List Byte :=
  beBytes 2 p.id ++ byte (optNat (p.slot.map Fin.val) 0xFF) ++ byte p.load.toNat ++ byte p.gradeIndex ++
    byte p.cursor ++ beBytes 2 p.done ++ byte p.state.code ++ byte p.flags.code ++ byte (presenceByte p) ++
    positionBytes p.beltStart ++ positionBytes p.beltEnd ++
    positionBytes ((p.span.map Prod.fst).getD 0) ++ positionBytes ((p.span.map Prod.snd).getD 0) ++
    positionBytes ((p.seam.map SeamRecord.position).getD 0) ++ beBytes 3 (optNat (p.seam.map SeamRecord.offset) 0) ++
    beBytes 3 (optNat (p.doses.map Prod.fst) 0) ++ beBytes 3 (optNat (p.doses.map Prod.snd) 0) ++
    byte p.verdict.code ++ p.plan.bytes

/-- One CELL LIST record (R86). -/
def BeltCell.bytes (c : BeltCell) : List Byte :=
  byte c.index ++ positionBytes c.formed ++ beBytes 2 (optNat c.piece 0) ++ beBytes 3 c.dose ++ beBytes 2 c.residue ++
    byte (bitByte 0 c.seam + bitByte 1 c.uncertain)

/-- The closing part of the CELL LIST view (R86). -/
def cellClosing (s : State) : List Byte := positionBytes s.pt.nextBoundary ++ byte s.lc.record.knife

/-- One LOOKASIDE record (R9). -/
def LookEntry.bytes (e : LookEntry) : List Byte := byte (bitByte 7 e.valid + e.slot.val) ++ beBytes 2 e.tag ++ e.copy

/-- The closing part of the LOOKASIDE view (R9). -/
def lookClosing (s : State) : List Byte := byte s.px.pointer.val

/-- A manifest as the MANIFEST view gives it (R163). -/
def Manifest.bytes (m : Manifest) : List Byte :=
  beBytes 2 m.roll ++ byte m.ids.length ++ unlistedBytes m.unlisted ++ m.ids.flatMap (beBytes 2)

/-- The last order as the MANIFEST view gives it (R163): an absent one reads slot 0xFF, and a load number the manual
does not give (assumption 36). -/
def lastOrderBytes (o : Option (Fin 8 × BitVec 8)) : List Byte :=
  match o with
  | some (slot, load) => byte slot.val ++ [load]
  | none => [0xFF, Config.absentByte 4]

/-- The one record of the MANIFEST view (R163). -/
def manifestRecord (tc : TakeUpController) : List Byte :=
  tc.current.bytes ++
    (match tc.closing with
      | some m => byte 1 ++ m.bytes
      | none => byte 0) ++
    byte tc.winder.code ++ beBytes 2 tc.current.roll ++ beBytes 2 (optNat tc.currentPiece 0) ++ lastOrderBytes tc.lastOrder

/-! ### The selection of a READ (R203) -/

/-- What a READ selects: its records, and the closing part, empty when it is not selected. -/
structure Selection where
  records : List (List Byte)
  closing : List Byte
deriving DecidableEq, Repr

/-- The entries of a table from `first`, `count` of them. -/
def selectTable (t : Table) (first count : Nat) (s : State) : Selection :=
  { records := (List.range count).map fun k => tableRecord t (first + k) s, closing := [] }

/-- The records of a list that lie in a range. -/
def inRangeOf {α : Type} (xs : List α) (first count : Nat) : List α := (xs.drop first).take count

/-- What a READ selects, or none where R203 refuses it RANGE. -/
def selectRead (table first count : Nat) (s : State) : Option Selection :=
  if count = 0 then none
  else
    match Table.ofCode table, table with
    | some t, _ => if t.records < first + count then none else some (selectTable t first count s)
    | none, 7 => some { records := (inRangeOf s.pq.pieces first count).map Piece.bytes, closing := [] }
    | none, 8 =>
      some
        { records := (inRangeOf s.cl first count).map BeltCell.bytes
          closing := if s.cl.length ≤ first + count then cellClosing s else [] }
    | none, 9 => if first = 0 ∧ count = 1 then some { records := [manifestRecord s.tc], closing := [] } else none
    | none, 10 =>
      if 32 < first + count then none
      else
        some
          { records := (inRangeOf s.px.lookaside.toList first count).map LookEntry.bytes
            closing := if 32 ≤ first + count then lookClosing s else [] }
    | none, _ => none

/-! ### The stream and its frames (R204) -/

/-- The leading records that fit whole in a budget of bytes. -/
def fitRecords : Nat → List (List Byte) → List (List Byte)
  | _, [] => []
  | budget, r :: rs => if r.length ≤ budget then r :: fitRecords (budget - r.length) rs else []

/-- The records of the stream. -/
def Selection.kept (x : Selection) : List (List Byte) := fitRecords Config.readStreamBytes x.records

/-- The stream holds every selected record and the closing part. -/
def Selection.whole (x : Selection) : Bool :=
  decide (x.kept.length = x.records.length) &&
    decide (x.records.flatten.length + x.closing.length ≤ Config.readStreamBytes)

/-- The stream of a READ. -/
def Selection.stream (x : Selection) : List Byte := if x.whole then x.kept.flatten ++ x.closing else x.kept.flatten

/-- The stream cut in parts of 52 bytes; an empty stream gives one part with no bytes. -/
def streamParts (bs : List Byte) : List (List Byte) :=
  if bs.isEmpty then [[]] else chunks Config.readFrameBytes bs.length bs

/-- The frames of a READ from part `k` on: each carries how many follow, the first record, the record count and its
offset. -/
def readFrames (rq : Request) (first : Nat) (x : Selection) : Nat → List (List Byte) → List Report
  | _, [] => []
  | k, part :: rest =>
    .response rq.src 4 rq.tag (if x.whole then .done else .partialClose) (if x.whole then .none else .length) rest.length
        (beBytes 2 first ++ beBytes 2 x.kept.length ++ beBytes 2 (Config.readFrameBytes * k) ++ part) ::
      readFrames rq first x (k + 1) rest

/-- READ after the checks of R196 (R203, R204). The field "first record" is the request's own first; a range that selects
no record, for which R204 names none, gives it too (DESIGN CHOICE, assumption 48). -/
def serveRead (rq : Request) (s : State) : State :=
  match selectRead (field rq.args 0 1) (field rq.args 1 2) (field rq.args 3 2) s with
  | none => refuse 4 rq .range s
  | some x =>
    (readFrames rq (field rq.args 1 2) x 0 (streamParts x.stream)).foldl (fun t r => placeReport r t) s

/-! ### STATUS (R205) -/

/-- The slot number at the head of the run list, 0xFF for none. -/
def headByte (s : State) : List Byte := byte (optNat (s.pq.runList.head?.map Fin.val) 0xFF)

/-- The open-write fields of page 0; those of an absent write read as absent. -/
def writeBytes (w : Option OpenWrite) : List Byte :=
  match w with
  | some w => byte 1 ++ [w.source] ++ byte w.table.code ++ beBytes 2 w.pointer ++ byte w.remaining
  | none => byte 0 ++ byte 0xFF ++ byte 0xFF ++ beBytes 2 0xFFFF ++ byte 0xFF

/-- The line's part of page 0. -/
def linePage (s : State) : List Byte :=
  byte s.lc.line.code ++ byte (optNat (s.lc.cause.map LineFault.code) 0) ++ byte s.lc.further.toNat ++
    byte (bitByte 0 s.lc.clearPending) ++ byte (bitByte 0 s.lc.valid) ++ byte s.rp.address.toNat ++
    beBytes 3 s.mu.flags.toNat ++ beBytes 3 s.lc.record.enables.toNat

/-- Page 0, line (29 bytes). -/
def statusLine (s : State) : List Byte :=
  linePage s ++ byte s.fs.state.code ++ beBytes 2 (optNat s.fs.cursor.piece 0) ++ byte s.pq.pieces.length ++
    byte (admittedCount s) ++ byte s.pq.runList.length ++ headByte s ++ beBytes 2 s.pq.nextId ++
    writeBytes s.mu.openWrite ++ byte s.report.length ++ byte s.rp.forward.length

/-- An encoder's fields of page 1. -/
def encoderBytes (e : EncoderRecord) : List Byte := byte e.state.code ++ positionBytes e.held ++ beBytes 3 e.speed

/-- Page 1, motion (36 bytes). -/
def statusMotion (s : State) : List Byte :=
  encoderBytes s.pt.infeed ++ encoderBytes s.pt.belt ++ positionBytes s.pt.nextBoundary ++ positionBytes s.fs.formed ++
    beBytes 2 s.sg.belt ++ beBytes 2 s.fs.lastInfeed ++ beBytes 2 s.sg.vHeat ++ beBytes 2 s.sg.vInf ++
    beBytes 2 (optNat s.sg.governing 0) ++ byte s.cl.length ++ byte s.lc.record.knife

/-- A zone's fields of page 2. -/
def zoneStatus (z : Zone) : List Byte := byte z.stateByte ++ byte z.inBand ++ beBytes 2 (optNat z.temp 0xFFFF)

/-- The splice marks of page 2. -/
def spliceMarks (sc : SpliceController) : Nat :=
  bitByte 0 sc.target.isSome + bitByte 1 (sc.target.any SpliceTarget.forced) + bitByte 2 sc.seam.isSome +
    bitByte 3 (sc.seam.any SeamFlight.reached)

/-- An unwind's fields of page 2. -/
def unwindBytes (u : UnwindRecord) : List Byte :=
  byte u.state.code ++ beBytes 2 (optNat u.diameter 0xFFFF) ++ byte (optNat (u.lastStatus.map UnwindReport.code) 0xFF)

/-- The splice controller's fields of page 2; a target or seam that is absent reads 0. -/
def spliceStatus (sc : SpliceController) : List Byte :=
  byte sc.state.code ++ byte (optNat (sc.lastStatus.map SplicerReport.code) 0xFF) ++ byte (spliceMarks sc) ++
    positionBytes ((sc.target.map SpliceTarget.seam).getD 0) ++ positionBytes ((sc.seam.map SeamFlight.seam).getD 0) ++
    unwindBytes sc.unwindA ++ unwindBytes sc.unwindB

/-- The take-up's fields of page 2. -/
def takeUpStatusBytes (tc : TakeUpController) : List Byte :=
  byte tc.winder.code ++ beBytes 2 (optNat tc.diameter 0xFFFF) ++
    byte (optNat (tc.lastStatus.map TakeUpReport.code) 0xFF) ++ beBytes 2 tc.current.roll

/-- Page 2, stations (57 bytes). -/
def statusStations (s : State) : List Byte :=
  zoneIndices.flatMap (fun z => zoneStatus s.zr.zones[z]) ++ spliceStatus s.sc ++ takeUpStatusBytes s.tc

/-- The data of a STATUS page, if there is such a page. -/
def statusPage (page : Nat) (s : State) : Option (List Byte) :=
  match page with
  | 0 => some (statusLine s)
  | 1 => some (statusMotion s)
  | 2 => some (statusStations s)
  | _ => none

/-- STATUS after the checks of R196 (R205). -/
def serveStatus (rq : Request) (s : State) : State :=
  match statusPage (field rq.args 0 1) s with
  | some data => respondDone 5 rq (field rq.args 0 1) data s
  | none => refuse 5 rq .range s

end Sys2Proof.Machine
end

