-- ==== Sys2Proof/Machine/Requests.lean ====
section
/-! DEFINITION. The requests that act on the line, the orders, the zones, the lookaside, the setpoint and the flags, and
LINE RESET: what each does after the checks every request meets (chapters 2, 3, 5, 6, 9 and 11). -/
namespace Sys2Proof.Machine

/-! ### START, STOP, RESTART, RELEASE -/

/-- The roles START requires of the map itself (R168). -/
def fixedRoles : List Role := [.encoder .infeed, .encoder .belt, .act .blade, .act .infeedDrive, .act .beltDrive]

/-- The roles START requires of a zone (R168). -/
def zoneRoles (z : Fin 8) : List Role :=
  [.probe z .upper, .probe z .lower, .act (.valve z .upper), .act (.valve z .lower)]

/-- The roles START requires, in its order (R168). -/
def requiredRoles (s : State) : List Role :=
  fixedRoles ++ zoneIndices.flatMap fun z => if s.zr.zones[z].enabled then zoneRoles z else []

/-- The first required role that no valid entry binds (R168). -/
def firstUnbound (s : State) : Option Role := (requiredRoles s).find? fun r => (bindingOf r s).isNone

/-- The first encoder record that is not TRACKING (R168). -/
def firstEncoder (s : State) : Option Encoder :=
  if s.pt.infeed.state ≠ .tracking then some .infeed
  else if s.pt.belt.state ≠ .tracking then some .belt
  else none

/-- The first enabled zone that is not READY, or is STALE (R168). -/
def firstZone (s : State) : Option (Fin 8) :=
  zoneIndices.find? fun z =>
    s.zr.zones[z].enabled && (decide (s.zr.zones[z].state ≠ .ready) || s.zr.zones[z].stale)

/-- The code an encoder refusal carries (note 2 of R196). -/
def encoderCode : Encoder → Nat
  | .infeed => 0
  | .belt => 1

/-- The three data bytes of a refused START, if a check of R168 fails (note 2 of R196). -/
def startRefusal (s : State) : Option (List Byte) :=
  if s.lc.line ≠ .stopped then some (byte 1 ++ byte s.lc.line.code ++ byte 0)
  else if !s.lc.valid then some (byte 2 ++ byte 0 ++ byte 0)
  else
    match firstUnbound s with
    | some r => some (byte 3 ++ byte r.codes.1 ++ byte r.codes.2)
    | none =>
      match firstEncoder s with
      | some e => some (byte 4 ++ byte (encoderCode e) ++ byte 0)
      | none =>
        match firstZone s with
        | some z => some (byte 5 ++ byte (z.val + 1) ++ byte s.zr.zones[z].stateByte)
        | none => none

/-- A START that passes every check: the line RUNNING, and a piece for an idle or starved FS (R169). -/
def startLine (s : State) : State := needOnRunning (changeLine .running s)

/-- START (R168, R169). -/
def serveStart (rq : Request) (s : State) : State :=
  match startRefusal s with
  | some data => respond 6 rq .refused .state 0 data s
  | none =>
    let t := startLine s
    respondDone 6 rq 0 (beBytes 2 t.sg.belt ++ beBytes 2 (optNat t.fs.cursor.piece 0)) t

/-- STOP (R170). -/
def serveStop (rq : Request) (s : State) : State :=
  match s.lc.line with
  | .running | .hold => respondDone 7 rq 0 [] (stopLine s)
  | .stopping | .stopped => respondDone 7 rq 0 [] s
  | .fault => refuse 7 rq .state s

/-- RESTART (R65). -/
def serveRestart (rq : Request) (s : State) : State :=
  match s.lc.line with
  | .running | .stopped =>
    respondDone 8 rq (admittedPieces s).length (beBytes 2 (optNat ((pieceInHand s).map Piece.id) 0)) (restartLine s)
  | .hold | .stopping | .fault => refuse 8 rq .state s

/-- RELEASE (R70). -/
def serveRelease (rq : Request) (s : State) : State :=
  match s.lc.line with
  | .hold => respondDone 9 rq 0 [] (needOnRunning (changeLine .running s))
  | .stopped | .running | .stopping | .fault => refuse 9 rq .state s

/-! ### ADMIT, ENLIST, WITHDRAW, CLEAR -/

/-- The slot ADMIT admits from, when no check of R34 refuses it. -/
def admitSlot (s : State) : Option (Fin 8) :=
  if s.lc.record.continuous || !lineAdmits s.lc.line then none else readyHead s

/-- What an admission came to, as ADMIT answers it (R34, section 11.1). -/
def answerAdmission (rq : Request) (s : State) : Admission → State
  | .piece id => respondDone 10 rq 1 (beBytes 2 id) s
  | .fault f =>
    respondDone 10 rq 0 (byte f.kind.code ++ beBytes 2 f.entry ++ byte f.level.code ++ byte f.cursor) s

/-- ADMIT (R34). -/
def serveAdmit (rq : Request) (s : State) : State :=
  match admitSlot s with
  | none => refuse 10 rq .state s
  | some slot => answerAdmission rq (admitFrom slot s).1 (admitFrom slot s).2

/-- The slot a byte names, 0..7. -/
def slotOfByte (n : Nat) : Option (Fin 8) := if h : n < 8 then some ⟨n, h⟩ else none

/-- A slot appended to the run list; on an empty list it becomes head (R28, R29). -/
def enlistSlot (slot : Fin 8) (s : State) : State :=
  let t := { s with pq.runList := s.pq.runList ++ [slot] }
  if s.pq.runList.isEmpty then admissionCheck (promoteHead t) else t

/-- ENLIST (R29). COUNT is the length the appending gives (assumption 37). -/
def serveEnlist (rq : Request) (s : State) : State :=
  match slotOfByte (field rq.args 0 1) with
  | none => refuse 11 rq .range s
  | some slot =>
    if s.pq.runList.contains slot then refuse 11 rq .state s
    else if s.pq.slots[slot].state ≠ .loaded then refuse 11 rq .state s
    else respondDone 11 rq (s.pq.runList.length + 1) [] (enlistSlot slot s)

/-- A slot removed from the run list; the next member becomes head when it was the head (R28, R30). -/
def withdrawSlot (slot : Fin 8) (s : State) : State :=
  let t := { s with pq.runList := s.pq.runList.filter fun i => !decide (i = slot) }
  if s.pq.runList.head? = some slot then admissionCheck (promoteHead t) else t

/-- WITHDRAW (R30). COUNT is the length the removal gives (assumption 37). -/
def serveWithdraw (rq : Request) (s : State) : State :=
  match slotOfByte (field rq.args 0 1) with
  | none => refuse 12 rq .range s
  | some slot =>
    if !s.pq.runList.contains slot then refuse 12 rq .state s
    else if s.pq.runList.head? = some slot ∧ s.pq.slots[slot].state = .active then refuse 12 rq .state s
    else respondDone 12 rq (s.pq.runList.filter fun i => !decide (i = slot)).length [] (withdrawSlot slot s)

/-- A FAULTED slot released (R31). -/
def releaseSlot (slot : Fin 8) (s : State) : State :=
  if s.pq.runList.head? = some slot then
    admissionCheck (modifySlot slot (fun o => { o with state := .active, fault := none }) s)
  else modifySlot slot (fun o => { o with state := .loaded, fault := none }) s

/-- CLEAR naming a slot, or nothing that is listed (R31). -/
def serveClearSlot (rq : Request) (s : State) : State :=
  match slotOfByte (field rq.args 0 1) with
  | none => refuse 13 rq .range s
  | some slot =>
    if s.pq.slots[slot].state = .faulted then respondDone 13 rq 0 [] (releaseSlot slot s) else refuse 13 rq .state s

/-- A line in FAULT cleared: at once with the belt record UNSEEN, else pending (R174). -/
def clearFault (s : State) : State :=
  match s.pt.belt.state with
  | .unseen => leaveFault s
  | _ => { s with lc.clearPending := true }

/-- CLEAR naming the line (R174). -/
def serveClearLine (rq : Request) (s : State) : State :=
  match s.lc.line with
  | .fault => respondDone 13 rq 0 (byte (bitByte 0 (clearFault s).lc.clearPending)) (clearFault s)
  | .stopped | .running | .hold | .stopping => refuse 13 rq .state s

/-- CLEAR by its target byte: 0xFF names the line (section 11.1). -/
def serveClear (rq : Request) (s : State) : State :=
  if field rq.args 0 1 = 0xFF then serveClearLine rq s else serveClearSlot rq s

/-! ### STANDBY and WAKE -/

/-- What a zone byte names: the zones, or the reason it is refused; 0 is ALL (R96, R97). -/
def namedZones (n : Nat) (s : State) : Except Reason (List (Fin 8)) :=
  if n = 0 then .ok zoneIndices
  else
    match slotOfByte (n - 1) with
    | none => .error .range
    | some z => if s.zr.zones[z].enabled then .ok [z] else .error .state

/-- The line states in which STANDBY is refused (R97). -/
def standbyBarred (line : LineState) : Bool :=
  match line with
  | .running | .hold => true
  | .stopped | .stopping | .fault => false

/-- STANDBY (R97); the line state is checked first (assumption 27). -/
def serveStandby (rq : Request) (s : State) : State :=
  if standbyBarred s.lc.line then refuse 14 rq .state s
  else
    match namedZones (field rq.args 0 1) s with
    | .error reason => refuse 14 rq reason s
    | .ok zs => respondDone 14 rq (standbyCount zs s) [] (standbyZones zs s)

/-- WAKE (R96). -/
def serveWake (rq : Request) (s : State) : State :=
  match namedZones (field rq.args 0 1) s with
  | .error reason => refuse 15 rq reason s
  | .ok zs => respondDone 15 rq (wakeCount zs s) [] (wakeZones zs s)

/-! ### PURGE, SPEED, ACKNOWLEDGE -/

/-- The valid lookaside entries a PURGE reaches: those of a slot, or all (R7). -/
def purged (slot : Option (Fin 8)) (e : LookEntry) : Bool :=
  e.valid &&
    match slot with
    | some i => decide (e.slot = i)
    | none => true

/-- The lookaside after a PURGE (R7). -/
def purgeLookaside (slot : Option (Fin 8)) (px : Translator) : Translator :=
  { px with lookaside := px.lookaside.map fun e => if purged slot e then { e with valid := false } else e }

/-- How many entries a PURGE invalidates (R7). -/
def purgeCount (slot : Option (Fin 8)) (px : Translator) : Nat := (px.lookaside.toList.filter (purged slot)).length

/-- A PURGE carried out and answered (R7). -/
def answerPurge (rq : Request) (slot : Option (Fin 8)) (s : State) : State :=
  respondDone 16 rq (purgeCount slot s.px) [] { s with px := purgeLookaside slot s.px }

/-- PURGE (R7); 0xFF is ALL. -/
def servePurge (rq : Request) (s : State) : State :=
  if field rq.args 0 1 = 0xFF then answerPurge rq none s
  else
    match slotOfByte (field rq.args 0 1) with
    | none => refuse 16 rq .range s
    | some slot => answerPurge rq (some slot) s

/-- A setpoint stored and the governor recomputed (R128). -/
def storeSetpoint (v : Nat) (s : State) : State := recompute { s with lc.record.setpoint := v }

/-- SPEED (R128). -/
def serveSpeed (rq : Request) (s : State) : State :=
  if 1000 < field rq.args 0 2 then refuse 17 rq .range s
  else
    let t := storeSetpoint (field rq.args 0 2) s
    respondDone 17 rq 0 (beBytes 2 t.sg.belt) t

/-- The flags with the masked ones set to their value bits (R207). -/
def acknowledged (flags value mask : BitVec 18) : BitVec 18 := (flags &&& ~~~mask) ||| (value &&& mask)

/-- How many flags differ between two flag words (R207). -/
def flagsChanged (a b : BitVec 18) : Nat := ((List.range 18).filter fun n => decide (a.getLsbD n ≠ b.getLsbD n)).length

/-- ACKNOWLEDGE (R207). -/
def serveAcknowledge (rq : Request) (s : State) : State :=
  let flags := acknowledged s.mu.flags (BitVec.ofNat 18 (field rq.args 0 3)) (BitVec.ofNat 18 (field rq.args 3 3))
  respondDone 18 rq (flagsChanged s.mu.flags flags) (beBytes 3 flags.toNat) { s with mu.flags := flags }

/-! ### LINE RESET (R208) -/

/-- The lookaside after LINE RESET: every entry invalid, the pointer 0 (R4). The other fields of the entries are kept
(assumption 16). -/
def resetLookaside (px : Translator) : Translator :=
  { px with lookaside := px.lookaside.map fun e => { e with valid := false }, pointer := 0 }

/-- An order slot after LINE RESET (R25). -/
def OrderSlot.lineReset (o : OrderSlot) : OrderSlot :=
  match o.state with
  | .active => { o with state := .loaded }
  | _ => o

/-- PQ after LINE RESET (R25, R49). -/
def resetQueue (pq : PieceQueue) : PieceQueue :=
  { pq with slots := pq.slots.map OrderSlot.lineReset, runList := [], pieces := [] }

/-- FS after LINE RESET (R54). -/
def resetFold (fs : FoldSequencer) : FoldSequencer :=
  { fs with state := .idle, cursor := FoldCursor.none, lastInfeed := 0 }

/-- SG after LINE RESET (R118). -/
def resetGovernor (sg : SpeedGovernor) : SpeedGovernor := { sg with belt := 0, governing := none, exitMark := none }

/-- SC after LINE RESET (R149). -/
def resetSplice (sc : SpliceController) : SpliceController :=
  { sc with
    state := if (standbyUnwind sc).isSome then .ready else .idle
    target := none, seam := none, firing := none, timeoutTaken := false }

/-- TC after LINE RESET (R152, R165). -/
def resetTakeUp (tc : TakeUpController) : TakeUpController :=
  { tc with
    winder := .winding, current := { tc.current with ids := [], unlisted := 0 }, closing := none
    currentPiece := none, lastOrder := none, forced := false, heldOrder := false, stateTime := none
    timeoutTaken := false }

/-- The slots LINE RESET empties (R189). -/
def abandonsAct (role : ActRole) : Bool :=
  match role with
  | .blade | .splicer | .knife | .turret => true
  | .infeedDrive | .beltDrive | .valve _ _ => false

/-- The ACT queue after LINE RESET, before the two SPEED frames (R189). -/
def abandonActs (q : ActQueue) : ActQueue := { q with entries := q.entries.filter fun e => !abandonsAct e.role }

/-- Every block but LC and MU set back (R208). -/
def resetBlocks (s : State) : State :=
  { s with
    px := resetLookaside s.px, pq := resetQueue s.pq, fs := resetFold s.fs, cl := [], sg := resetGovernor s.sg
    sc := resetSplice s.sc, tc := resetTakeUp s.tc, act := abandonActs s.act }

/-- LC's part: SPEED 0 to the belt drive and the infeed drive, then STOPPED, and the governor's recompute (R178). No
zone is put to standby. -/
def resetLine (s : State) : State :=
  let t := placeAct .infeedDrive (.speed 0) (placeAct .beltDrive (.speed 0) s)
  recompute { t with lc.line := .stopped, lc.restCount := 0 }

/-- MU's closing of an open write at LINE RESET (R208). -/
def closeForReset (s : State) : State :=
  match s.mu.openWrite with
  | some w => queueClosing w .state s
  | none => s

/-- LINE RESET (R208). -/
def serveLineReset (rq : Request) (s : State) : State :=
  match s.lc.line with
  | .fault => refuse 19 rq .state s
  | .stopped | .running | .hold | .stopping =>
    let t := closeForReset (resetLine (resetBlocks s))
    respondDone 19 rq 0 [] { t with mu.flags := 0 }

/-! ### The checks every request meets (R196, R198) -/

/-- A request MU takes: BUSY during the pattern-memory clear; otherwise its own open write is broken, its LEN is
checked, and its own rule serves it (R196, R198). A START refused for its LEN carries no data: note 2 of R196 gives a
refused START three bytes, but no detail code for it (DESIGN CHOICE, assumption 65). -/
def answer (code : Nat) (lengthOk : Bool) (serve : Request → State → State) (rq : Request) (s : State) : State :=
  if s.px.clearing then respond code rq .busy .none 0 [] s
  else
    let t := breakWrite rq.src .sequence s
    if lengthOk then serve rq t else refuse code rq .length t

/-- A request that leaves its source's open write open: CONTINUE and LINE RESET (R198). -/
def answerKeeping (code : Nat) (lengthOk : Bool) (serve : Request → State → State) (rq : Request) (s : State) : State :=
  if s.px.clearing then respond code rq .busy .none 0 [] s
  else if lengthOk then serve rq s else refuse code rq .length s

/-- CLOSE: a well-formed one answers its own close; one of the wrong LEN breaks its source's write with reason none and
is refused (assumption 11). -/
def answerClose (rq : Request) (s : State) : State :=
  if s.px.clearing then respond 3 rq .busy .none 0 [] s
  else if rq.args.length = 0 then serveClose rq s
  else refuse 3 rq .length (breakWrite rq.src .none s)

/-- A request whose REQ code names none (R196). -/
def answerUnknown (code : Byte) (rq : Request) (s : State) : State :=
  if s.px.clearing then respond code.toNat rq .busy .none 0 [] s
  else refuse code.toNat rq .unknown (breakWrite rq.src .sequence s)

/-- A request taken by its REQ code (R196): the codes and argument lengths of section 11.1. -/
def takeRequest (code : Byte) (rq : Request) (s : State) : State :=
  match code.toNat with
  | 1 => answer 1 (decide (4 ≤ rq.args.length)) serveWrite rq s
  | 2 => answerKeeping 2 true serveContinue rq s
  | 3 => answerClose rq s
  | 4 => answer 4 (decide (rq.args.length = 5)) serveRead rq s
  | 5 => answer 5 (decide (rq.args.length = 1)) serveStatus rq s
  | 6 => answer 6 (decide (rq.args.length = 0)) serveStart rq s
  | 7 => answer 7 (decide (rq.args.length = 0)) serveStop rq s
  | 8 => answer 8 (decide (rq.args.length = 0)) serveRestart rq s
  | 9 => answer 9 (decide (rq.args.length = 0)) serveRelease rq s
  | 10 => answer 10 (decide (rq.args.length = 0)) serveAdmit rq s
  | 11 => answer 11 (decide (rq.args.length = 1)) serveEnlist rq s
  | 12 => answer 12 (decide (rq.args.length = 1)) serveWithdraw rq s
  | 13 => answer 13 (decide (rq.args.length = 1)) serveClear rq s
  | 14 => answer 14 (decide (rq.args.length = 1)) serveStandby rq s
  | 15 => answer 15 (decide (rq.args.length = 1)) serveWake rq s
  | 16 => answer 16 (decide (rq.args.length = 1)) servePurge rq s
  | 17 => answer 17 (decide (rq.args.length = 2)) serveSpeed rq s
  | 18 => answer 18 (decide (rq.args.length = 6)) serveAcknowledge rq s
  | 19 => answerKeeping 19 (decide (rq.args.length = 0)) serveLineReset rq s
  | _ => answerUnknown code rq s

/-- SRC gives an address to answer (R180). -/
def answerable (rq : Request) : Bool := decide (1 ≤ rq.src.toNat) && decide (rq.src.toNat ≤ 63)

/-- A request as RP hands it to MU at its arrival time: one whose SRC gives no address to answer is discarded (R180),
and nothing reaches MU in reset or at address 0 (R193, R182, assumption 7). -/
def handRequest (take : Request → State → State) (rq : Request) (s : State) : State :=
  whenOnline rq.time (if answerable rq then take rq else id) s

end Sys2Proof.Machine
end

