-- ==== Sys2Proof/Machine/Samples.lean ====
section
/-! DEFINITION. What each owner does with a sample of its role, and with the expiry of each timer (sections 4.2, 5.2,
7.1, 7.2, 8.1, 8.3 and 11.2). -/
namespace Sys2Proof.Machine

/-- A sample of good quality; every other QUAL reports a fault and the owner discards the sample (R186). -/
def goodQuality (x : Sample) : Bool := decide (x.qual = 0)

/-! ### Encoders and probes -/

/-- An encoder sample (R73). -/
def takeEncoder (e : Encoder) (x : Sample) (s : State) : State :=
  if goodQuality x then
    match e with
    | .infeed => takeInfeedSample x s
    | .belt => takeBeltSample x s
  else s

/-- The staleness check of an encoder (R76). -/
def checkEncoder (e : Encoder) (s : State) : State :=
  if encoderDue s.lc.line (encoderOf e s.pt) s.clock then expireEncoder e s else s

/-- A probe sample, its VALUE limited to 0..2500 (R91). -/
def takeProbeSample (z : Fin 8) (h : Half) (x : Sample) (s : State) : State :=
  if goodQuality x then takeProbe z h (limitValue x.value 2500) s else s

/-- The staleness timer of a half (R92). -/
def checkHalf (z : Fin 8) (h : Half) (s : State) : State :=
  if halfDue (s.zr.zones[z].half h) s.clock then expireHalf z h s else s

/-! ### Unwinds and the splicer -/

/-- The report an unwind status VALUE makes, if any (R129). -/
def unwindReport (value : BitVec 32) : Option UnwindReport :=
  match codeValue value with
  | 0 => some .empty
  | 1 => some .loaded
  | _ => none

/-- The state a status report gives an unwind, or none where it leaves it unchanged (R130). -/
def unwindChange (state other : UnwindState) (r : UnwindReport) : Option UnwindState :=
  match state, r with
  | .empty, .loaded => if other = .active then some .loaded else some .active
  | .loaded, .loaded => if other = .active then none else some .active
  | .loaded, .empty => some .empty
  | .active, .empty => some .empty
  | .expired, .empty => some .empty
  | .empty, .empty => none
  | .active, .loaded => none
  | .expired, .loaded => none

/-- The ACTIVE unwind that reports EMPTY faults a line that is not at rest (R130): none in STOPPED, though R171 speaks of
a fault cause taken there (DEDUCED, assumption 47). -/
def runsOut (state : UnwindState) (r : UnwindReport) (line : LineState) : Bool :=
  decide (state = .active) && decide (r = .empty) && lineWatched line

/-- An unwind's change of state taken: the splicer is judged, then the line faults if the roll ran out (R130, R132,
assumption 31). The diameter recorded last stands through every change of state, a new roll's too, until that unwind's
next diameter sample (R131; DEDUCED, assumption 50). -/
def changeUnwind (u : Unwind) (new : UnwindState) (faults : Bool) (s : State) : State :=
  let t := judgeSplicer (modifyUnwind u (fun r => { r with state := new }) s)
  if faults then lineFault .unwindEmpty t else t

/-- An unwind status report taken (R130). -/
def takeUnwindReport (u : Unwind) (r : UnwindReport) (s : State) : State :=
  let t := modifyUnwind u (fun q => { q with lastStatus := some r }) s
  if t.sc.state = .firing then t
  else
    match unwindChange (unwindOf u t.sc).state (unwindOf (otherUnwind u) t.sc).state r with
    | some new => changeUnwind u new (runsOut (unwindOf u t.sc).state r t.lc.line) t
    | none => t

/-- An unwind status sample (R129, R130). -/
def takeUnwindStatus (u : Unwind) (x : Sample) (s : State) : State :=
  if goodQuality x then
    match unwindReport x.value with
    | some r => takeUnwindReport u r s
    | none => s
  else s

/-- The ACTIVE roll stands at or below the forced diameter with no standby, and SC is not FIRING (R133). -/
def rollLow (s : State) : Bool :=
  activeAtOrBelow s.sc s.lc.record.forcedDiameter && (standbyUnwind s.sc).isNone && decide (s.sc.state ≠ .firing)

/-- The checks an ACTIVE unwind's diameter brings: the splicer state, UNWIND_LOW, the forced diameter (R131). -/
def checkDiameter (s : State) : State :=
  let t := judgeSplicer s
  checkForced (raiseIf (rollLow t) .unwindLow t)

/-- An unwind diameter sample, its VALUE limited to 0..2000 (R129, R131). -/
def takeUnwindDiameter (u : Unwind) (x : Sample) (s : State) : State :=
  if goodQuality x then
    let t := modifyUnwind u (fun r => { r with diameter := some (limitValue x.value 2000) }) s
    if (unwindOf u t.sc).state = .active then checkDiameter t else t
  else s

/-- The report a splicer status VALUE makes, if any (R140). -/
def splicerReport (value : BitVec 32) : Option SplicerReport :=
  match codeValue value with
  | 0 => some .ready
  | 1 => some .busy
  | 2 => some .done
  | _ => none

/-- Step 1 of R140: the standby becomes ACTIVE and the unwind that was ACTIVE becomes EXPIRED. -/
def swapUnwinds (s : State) : State :=
  match standbyUnwind s.sc with
  | some u =>
    modifyUnwind u (fun r => { r with state := .active })
      (modifyUnwind (otherUnwind u) (fun r => { r with state := .expired }) s)
  | none => s

/-- A splice completed (R140). -/
def completeSplice (s : State) : State :=
  let t := raise .spliceDone (swapUnwinds s)
  judgeSplicer { t with sc.state := .idle, sc.firing := none, sc.timeoutTaken := false }

/-- A splicer status report taken (R140). -/
def takeSplicerReport (r : SplicerReport) (s : State) : State :=
  let t := { s with sc.lastStatus := some r }
  match r with
  | .done => if t.sc.state = .firing then completeSplice t else t
  | .ready | .busy => t

/-- A splicer status sample (R140). -/
def takeSplicerStatus (x : Sample) (s : State) : State :=
  if goodQuality x then
    match splicerReport x.value with
    | some r => takeSplicerReport r s
    | none => s
  else s

/-- The splice timeout is due (R141). -/
def spliceDue (sc : SpliceController) (now : Clock) : Bool :=
  decide (sc.state = .firing) && !sc.timeoutTaken &&
    match sc.firing with
    | some t => decide (Config.spliceTimeoutMs ≤ elapsed now t)
    | none => false

/-- The splice timeout (R141). -/
def checkSplice (s : State) : State :=
  if spliceDue s.sc s.clock then lineFault .spliceTimeout { s with sc.timeoutTaken := true } else s

/-! ### The take-up -/

/-- A take-up diameter sample, its VALUE limited to 0..2000 (R150). -/
def takeTakeUpDiameter (x : Sample) (s : State) : State :=
  if goodQuality x then judgeCut { s with tc.diameter := some (limitValue x.value 2000) } else s

/-- A take-up status sample (R151). -/
def takeTakeUpStatus (x : Sample) (s : State) : State :=
  if goodQuality x then
    match takeUpReport x.value with
    | some r => takeUpStatus r s
    | none => s
  else s

/-- The take-up timeout (R161). -/
def checkCut (s : State) : State :=
  if cutDue s.tc s.clock then lineFault .cutTimeout { s with tc.timeoutTaken := true } else s

/-! ### By role -/

/-- A sample handed to the owner of its role; an actuator role has none (R186). -/
def deliver (role : Role) (x : Sample) (s : State) : State :=
  match role with
  | .encoder e => takeEncoder e x s
  | .probe z h => takeProbeSample z h x s
  | .unwindStatus u => takeUnwindStatus u x s
  | .unwindDiameter u => takeUnwindDiameter u x s
  | .splicerStatus => takeSplicerStatus x s
  | .takeUpDiameter => takeTakeUpDiameter x s
  | .takeUpStatus => takeTakeUpStatus x s
  | .act _ => s

/-- A sample as RP hands it to its owner at its arrival time (R186, assumption 7). -/
def handSample (role : Role) (x : Sample) (s : State) : State := whenOnline x.time (deliver role x) s

end Sys2Proof.Machine
end

