-- ==== Sys2Proof/Machine/Ring.lean ====
section
/-! DEFINITION. RP: frames received, checked and disposed of, the forward buffer, and the outbound arbiter with the
frames the part completes and sends (chapter 10). -/
namespace Sys2Proof.Machine

/-! ### A frame received (R179, R194, R195) -/

/-- The fields of a good frame, and its bytes as received. -/
structure Frame where
  dst     : Byte
  src     : Byte
  kind    : Byte
  stamp   : Stamp
  payload : List Byte
  raw     : List Byte
deriving DecidableEq, Repr

/-- LEN of the bytes of a frame. -/
def lenField (burst : List Byte) : Nat := field burst 4 1

/-- The bytes from DST through the last payload byte (R195). -/
def checkedBytes (burst : List Byte) : List Byte := (burst.drop 1).take (9 + lenField burst)

/-- The bytes between two idles are a good frame: the delimiter, LEN at most 64, exactly 12 + LEN bytes, and the CRC
they carry (R179). -/
def goodFrame (burst : List Byte) : Bool :=
  decide (byteAt burst 0 = 0xA6) && decide (lenField burst ≤ 64) && decide (burst.length = 12 + lenField burst) &&
    decide ((crc (checkedBytes burst)).toNat = field burst (10 + lenField burst) 2)

/-- The fields of a frame. -/
def frameOf (burst : List Byte) : Frame :=
  { dst := byteAt burst 1, src := byteAt burst 2, kind := byteAt burst 3
    stamp := BitVec.ofNat 32 (field burst 6 4), payload := (burst.drop 10).take (lenField burst), raw := burst }

/-! ### Disposition (R180, R182) -/

/-- The four dispositions of R180. -/
inductive Disposition where
  | stripped | taken | inspected | forwarded
deriving DecidableEq, Repr

/-- The disposition of a good frame: the questions of R180 in order; at address 0 every good frame is forwarded
(R182). -/
def disposition (f : Frame) (s : State) : Disposition :=
  if s.rp.address = 0 then .forwarded
  else if f.src = ownAddress s then .stripped
  else if f.kind = 3 ∧ f.dst = ownAddress s then .taken
  else if f.kind = 1 then .inspected
  else .forwarded

/-- A frame joins the forward buffer; one that finds 8 frames there is not forwarded (R181). -/
def forwardFrame (f : Frame) (s : State) : State :=
  if s.rp.forward.length < Config.forwardLimit then { s with rp.forward := s.rp.forward ++ [f.raw] } else s

/-- The request a taken frame carries, after its REQ (R180). -/
def requestOf (f : Frame) (time : Clock) : Request :=
  { src := f.src, tag := byteAt f.payload 1, args := f.payload.drop 2, time := time }

/-- A taken frame handed to MU; one with LEN below 2 is discarded (R180). -/
def takeFrameRequest (f : Frame) (time : Clock) (s : State) : State :=
  if f.payload.length < 2 then s else handRequest (takeRequest (byteAt f.payload 0)) (requestOf f time) s

/-- The sample an inspected frame carries (R186). -/
def sampleOf (f : Frame) (time : Clock) : Sample :=
  { value := BitVec.ofNat 32 (field f.payload 1 4), qual := byteAt f.payload 5, stamp := f.stamp, time := time }

/-- The role an inspected frame meets in the node map (R186). -/
def roleMet (f : Frame) (s : State) : Option Role := (entryAt f.src (byteAt f.payload 0) s).bind NodeEntry.binds

/-- An inspected frame handed to the owner of its role, if LEN is 6 and it meets one (R186). -/
def inspectFrame (f : Frame) (time : Clock) (s : State) : State :=
  if f.payload.length = 6 then
    match roleMet f s with
    | some role => handSample role (sampleOf f time) s
    | none => s
  else s

/-- A good frame disposed of (R180). -/
def disposeFrame (f : Frame) (time : Clock) (s : State) : State :=
  match disposition f s with
  | .stripped => s
  | .taken => takeFrameRequest f time s
  | .inspected => forwardFrame f (inspectFrame f time s)
  | .forwarded => forwardFrame f s

/-- A burst received at the upstream port: nothing in reset (R193), a bad frame dropped without effect (R179), a good
one disposed of (R180). -/
def receive (burst : List Byte) (time : Clock) (s : State) : State :=
  if !s.rp.inReset && goodFrame burst then disposeFrame (frameOf burst) time (setClock time s) else s

/-! ### Frames of the part's own (R188, R191, R194) -/

/-- CMD of an ACT command (section 10.10). -/
def ActCommand.code : ActCommand → Nat
  | .fold _ _ _ => 1
  | .speed _ => 2
  | .valve _ => 3
  | .splice _ => 4
  | .cut _ => 5
  | .index _ => 6

/-- The number an unwind is named by (section 10.10). -/
def unwindCode : Unwind → Nat
  | .a => 0
  | .b => 1

/-- ARG1 to ARG3 of an ACT command (section 10.10). -/
def ActCommand.args : ActCommand → Nat × Nat × Nat
  | .fold left right dir => (left, right, dir.code)
  | .speed v => (v, 0, 0)
  | .valve v => (v, 0, 0)
  | .splice u => (unwindCode u, 0, 0)
  | .cut roll => (roll, 0, 0)
  | .index roll => (roll, 0, 0)

/-- The payload of an ACT frame on a channel (R194). -/
def actPayload (channel : Byte) (c : ActCommand) : List Byte :=
  [channel] ++ byte c.code ++ beBytes 2 c.args.1 ++ beBytes 2 c.args.2.1 ++ beBytes 2 c.args.2.2

/-- The doses of a PIECE notice: 0 and 0 when absent (R44). -/
def doseBytes (doses : Option (Nat × Nat)) : List Byte :=
  match doses with
  | some (low, high) => beBytes 3 low ++ beBytes 3 high
  | none => beBytes 3 0 ++ beBytes 3 0

/-- The payload of a REPORT frame (R194). -/
def reportPayload : Report → List Byte
  | .response _ req tag status reason count data =>
    [req, tag] ++ byte status.code ++ byte reason.code ++ beBytes 2 count ++ data
  | .event flag flags => byte 1 ++ byte flag.number ++ beBytes 3 flags.toNat
  | .piece id slot verdict doses flags offset =>
    byte 2 ++ beBytes 2 id ++ byte (optNat (slot.map Fin.val) 0xFF) ++ byte verdict.code ++ doseBytes doses ++
      byte flags.code ++ beBytes 3 (optNat offset 0xFFFFFF)
  | .roll roll frame frames idCount unlisted ids =>
    byte 3 ++ beBytes 2 roll ++ byte frame ++ byte frames ++ byte idCount ++ unlistedBytes unlisted ++
      ids.flatMap (beBytes 2)

/-- DST of a REPORT frame: a response goes to its request's SRC, a notice is a broadcast (R191). -/
def reportDst : Report → Byte
  | .response dst _ _ _ _ _ _ => dst
  | .event _ _ | .piece _ _ _ _ _ _ | .roll _ _ _ _ _ _ => 0xFF

/-- KIND of a REPORT frame (R194). -/
def reportKind : Report → Byte
  | .response _ _ _ _ _ _ _ => 4
  | .event _ _ | .piece _ _ _ _ _ _ | .roll _ _ _ _ _ _ => 5

/-- A frame of the part's own, as it goes out: SRC the own address, SEQ the sequence counter, STAMP the clock reading
(R188, R192, R194, R195). -/
def ownFrame (dst kind : Byte) (payload : List Byte) (s : State) : List Byte :=
  let body := [dst, ownAddress s, kind] ++ byte payload.length ++ [s.rp.sequence] ++ beBytes 4 s.clock.toNat ++ payload
  [0xA6] ++ body ++ beBytes 2 (crc body).toNat

/-! ### The outbound arbiter (R192) -/

/-- A frame of the part's own begun: the sequence counter increases by 1 (R192). -/
def beginOwn (dst kind : Byte) (payload : List Byte) (s : State) : State :=
  { s with rp.sending := some (ownFrame dst kind payload s), rp.sequence := s.rp.sequence + 1 }

/-- The oldest pending ACT frame whose role is bound, with its binding, and the frames behind it; unbound ones before
it are discarded (R188). -/
def nextAct (bind : Role → Option NodeEntry) : List ActEntry → Option (ActEntry × NodeEntry) × List ActEntry
  | [] => (none, [])
  | e :: rest =>
    match bind (.act e.role) with
    | some b => (some (e, b), rest)
    | none => nextAct bind rest

/-- The port idle: no frame to send (R192). -/
def idlePort (s : State) : State := { s with rp.sending := none }

/-- Step 3 and 4 of R192: the oldest REPORT frame, or idle. -/
def sendReport (s : State) : State :=
  match s.report with
  | r :: rest => beginOwn (reportDst r) (reportKind r) (reportPayload r) { s with report := rest }
  | [] => idlePort s

/-- Step 2 of R192: the oldest pending ACT frame, unless none is bound. -/
def sendOwn (s : State) : State :=
  match nextAct (fun r => bindingOf r s) s.act.entries with
  | (some (e, b), rest) =>
    beginOwn (b.node.setWidth 8) 2 (actPayload b.channel e.command) { s with act.entries := rest }
  | (none, rest) => sendReport { s with act.entries := rest }

/-- The downstream port is free: forwarded traffic first, then the part's own frames; at address 0 it sends none of its
own (R192, R182). -/
def arbitrate (s : State) : State :=
  match s.rp.forward with
  | f :: rest => { s with rp.forward := rest, rp.sending := some f }
  | [] => if s.rp.address = 0 then idlePort s else sendOwn s

end Sys2Proof.Machine
end

