-- ==== Sys2Proof/Machine/PinCommands.lean ====
section
/-! DEFINITION. The meanings of the reset pin and pattern clear commands (chapters 1 and 10). -/
namespace Sys2Proof.Machine

/-- The reset pin asserted (R193): both ports fall silent and a frame being sent is lost. -/
def assertReset (s : State) : State := { s with rp.inReset := true, rp.sending := none }

/-- The reset pin released, with the straps as read (R193, R182): every block at its reset value, the clock from 0, and
the pattern memory clear begun (R1). -/
def releaseReset (address : BitVec 6) (fast : Bool) (s : State) : State :=
  hardReset address fast s.px.mem s.pending

/-- The pattern memory clear ends (R1, R209): every entry reads zeros, and MU takes requests. -/
def endClear (s : State) : State :=
  if s.px.clearing then { s with px.mem := [], px.clearing := false } else s

/-- RESET_ASSERT (R193). -/
def execResetAssert (s : State) : Host.Outcome State Fault Refusal := .next (assertReset s)

/-- RESET_RELEASE (R193). -/
def execResetRelease (address : BitVec 6) (fast : Bool) (s : State) :
    Host.Outcome State Fault Refusal := .next (releaseReset address fast s)

/-- PATTERN_CLEAR_DONE (R1, R209). -/
def execPatternClearDone (time : Clock) (s : State) : Host.Outcome State Fault Refusal := .next (whenRunning time endClear s)

end Sys2Proof.Machine
end

