-- ==== Sys2Proof/Machine/RequestCommands.lean ====
section
/-! DEFINITION. The meanings of the request commands: each is its REQUEST frame handed to MU (R180, R196), and the open-write
timer (R198). -/
namespace Sys2Proof.Machine

/-- REQUEST_UNKNOWN (R196): the code as it stands, which names no request in a well-formed command. -/
def execRequestUnknown (code : Byte) (rq : Request) (s : State) : Host.Outcome State Fault Refusal :=
  .next (handRequest (takeRequest code) rq s)

/-- WRITE (R199). -/
def execWrite (rq : Request) (s : State) : Host.Outcome State Fault Refusal := .next (handRequest (takeRequest 1) rq s)

/-- CONTINUE (R201). -/
def execContinueWrite (rq : Request) (s : State) : Host.Outcome State Fault Refusal := .next (handRequest (takeRequest 2) rq s)

/-- CLOSE (R202). -/
def execCloseWrite (rq : Request) (s : State) : Host.Outcome State Fault Refusal := .next (handRequest (takeRequest 3) rq s)

/-- WRITE_TIMEOUT (R198): nothing unless the open write's timer has run out (assumption 4). -/
def execWriteTimeout (time : Clock) (s : State) : Host.Outcome State Fault Refusal := .next (whenRunning time expireWrite s)

/-- READ (R203). -/
def execRead (rq : Request) (s : State) : Host.Outcome State Fault Refusal := .next (handRequest (takeRequest 4) rq s)

/-- STATUS (R205). -/
def execStatus (rq : Request) (s : State) : Host.Outcome State Fault Refusal := .next (handRequest (takeRequest 5) rq s)

/-- START (R168). -/
def execStart (rq : Request) (s : State) : Host.Outcome State Fault Refusal := .next (handRequest (takeRequest 6) rq s)

/-- STOP (R170). -/
def execStop (rq : Request) (s : State) : Host.Outcome State Fault Refusal := .next (handRequest (takeRequest 7) rq s)

/-- RESTART (R65). -/
def execRestart (rq : Request) (s : State) : Host.Outcome State Fault Refusal := .next (handRequest (takeRequest 8) rq s)

/-- RELEASE (R70). -/
def execRelease (rq : Request) (s : State) : Host.Outcome State Fault Refusal := .next (handRequest (takeRequest 9) rq s)

/-- ADMIT (R34). -/
def execAdmitPiece (rq : Request) (s : State) : Host.Outcome State Fault Refusal := .next (handRequest (takeRequest 10) rq s)

/-- ENLIST (R29). -/
def execEnlist (rq : Request) (s : State) : Host.Outcome State Fault Refusal := .next (handRequest (takeRequest 11) rq s)

/-- WITHDRAW (R30). -/
def execWithdraw (rq : Request) (s : State) : Host.Outcome State Fault Refusal := .next (handRequest (takeRequest 12) rq s)

/-- CLEAR naming a slot (R31). -/
def execClearSlot (rq : Request) (s : State) : Host.Outcome State Fault Refusal := .next (handRequest (takeRequest 13) rq s)

/-- CLEAR naming the line (R174). -/
def execClearLine (rq : Request) (s : State) : Host.Outcome State Fault Refusal := .next (handRequest (takeRequest 13) rq s)

/-- STANDBY (R97). -/
def execStandby (rq : Request) (s : State) : Host.Outcome State Fault Refusal := .next (handRequest (takeRequest 14) rq s)

/-- WAKE (R96). -/
def execWake (rq : Request) (s : State) : Host.Outcome State Fault Refusal := .next (handRequest (takeRequest 15) rq s)

/-- PURGE (R7). -/
def execPurge (rq : Request) (s : State) : Host.Outcome State Fault Refusal := .next (handRequest (takeRequest 16) rq s)

/-- SPEED (R128). -/
def execSpeed (rq : Request) (s : State) : Host.Outcome State Fault Refusal := .next (handRequest (takeRequest 17) rq s)

/-- ACKNOWLEDGE (R207). -/
def execAcknowledge (rq : Request) (s : State) : Host.Outcome State Fault Refusal := .next (handRequest (takeRequest 18) rq s)

/-- LINE RESET (R208). -/
def execLineReset (rq : Request) (s : State) : Host.Outcome State Fault Refusal := .next (handRequest (takeRequest 19) rq s)

end Sys2Proof.Machine
end

