-- ==== Sys2Proof/Machine/RingCommands.lean ====
section
/-! DEFINITION. The meanings of the ring port commands (chapter 10). -/
namespace Sys2Proof.Machine

/-- FRAME_RECEIVED (R179, R180). -/
def execFrameReceived (burst : List Byte) (time : Clock) (s : State) : Host.Outcome State Fault Refusal :=
  .next (receive burst time s)

/-- PORT_FREE (R192). -/
def execPortFree (time : Clock) (s : State) : Host.Outcome State Fault Refusal := .next (whenRunning time arbitrate s)

end Sys2Proof.Machine
end

