-- ==== Sys2Proof/Machine/SampleCommands.lean ====
section
/-! DEFINITION. The meanings of the sample commands: each is its sample handed to the owner of its role (R186). -/
namespace Sys2Proof.Machine

/-- ENCODER_SAMPLE (R73). -/
def execEncoderSample (enc : Encoder) (x : Sample) (s : State) : Host.Outcome State Fault Refusal :=
  .next (handSample (.encoder enc) x s)

/-- PROBE_SAMPLE (R91). -/
def execProbeSample (zone : Fin 8) (half : Half) (x : Sample) (s : State) : Host.Outcome State Fault Refusal :=
  .next (handSample (.probe zone half) x s)

/-- UNWIND_STATUS_SAMPLE (R130). -/
def execUnwindStatusSample (unwind : Unwind) (x : Sample) (s : State) : Host.Outcome State Fault Refusal :=
  .next (handSample (.unwindStatus unwind) x s)

/-- UNWIND_DIAMETER_SAMPLE (R131). -/
def execUnwindDiameterSample (unwind : Unwind) (x : Sample) (s : State) : Host.Outcome State Fault Refusal :=
  .next (handSample (.unwindDiameter unwind) x s)

/-- SPLICER_STATUS_SAMPLE (R140). -/
def execSplicerStatusSample (x : Sample) (s : State) : Host.Outcome State Fault Refusal :=
  .next (handSample .splicerStatus x s)

/-- TAKE_UP_DIAMETER_SAMPLE (R150). -/
def execTakeUpDiameterSample (x : Sample) (s : State) : Host.Outcome State Fault Refusal :=
  .next (handSample .takeUpDiameter x s)

/-- TAKE_UP_STATUS_SAMPLE (R151). -/
def execTakeUpStatusSample (x : Sample) (s : State) : Host.Outcome State Fault Refusal :=
  .next (handSample .takeUpStatus x s)

end Sys2Proof.Machine
end

