-- ==== Sys2Proof/Machine/TimerCommands.lean ====
section
/-! DEFINITION. The meanings of the timer commands. Each acts only when its timer has run out at its clock reading (assumption
4). -/
namespace Sys2Proof.Machine

/-- ENCODER_STALE (R76). -/
def execEncoderStale (enc : Encoder) (time : Clock) (s : State) : Host.Outcome State Fault Refusal :=
  .next (whenRunning time (checkEncoder enc) s)

/-- HALF_EXPIRY (R92). -/
def execHalfExpiry (zone : Fin 8) (half : Half) (time : Clock) (s : State) : Host.Outcome State Fault Refusal :=
  .next (whenRunning time (checkHalf zone half) s)

/-- SPLICE_TIMEOUT (R141). -/
def execSpliceTimeout (time : Clock) (s : State) : Host.Outcome State Fault Refusal :=
  .next (whenRunning time checkSplice s)

/-- CUT_TIMEOUT (R161). -/
def execCutTimeout (time : Clock) (s : State) : Host.Outcome State Fault Refusal :=
  .next (whenRunning time checkCut s)

end Sys2Proof.Machine
end

