-- ==== Sys2Proof/Machine/Dispatch.lean ====
section
/-! DEFINITION. One arm per command: its meaning. -/
namespace Sys2Proof.Machine

def exec (i : Instr) (s : State) : Host.Outcome State Fault Refusal :=
  match i with
  | .resetAssert => Sys2Proof.Machine.execResetAssert s
  | .resetRelease address fast => Sys2Proof.Machine.execResetRelease address fast s
  | .patternClearDone time => Sys2Proof.Machine.execPatternClearDone time s
  | .frameReceived burst time => Sys2Proof.Machine.execFrameReceived burst time s
  | .portFree time => Sys2Proof.Machine.execPortFree time s
  | .requestUnknown code rq => Sys2Proof.Machine.execRequestUnknown code rq s
  | .write rq => Sys2Proof.Machine.execWrite rq s
  | .continueWrite rq => Sys2Proof.Machine.execContinueWrite rq s
  | .closeWrite rq => Sys2Proof.Machine.execCloseWrite rq s
  | .writeTimeout time => Sys2Proof.Machine.execWriteTimeout time s
  | .read rq => Sys2Proof.Machine.execRead rq s
  | .status rq => Sys2Proof.Machine.execStatus rq s
  | .start rq => Sys2Proof.Machine.execStart rq s
  | .stop rq => Sys2Proof.Machine.execStop rq s
  | .restart rq => Sys2Proof.Machine.execRestart rq s
  | .release rq => Sys2Proof.Machine.execRelease rq s
  | .admitPiece rq => Sys2Proof.Machine.execAdmitPiece rq s
  | .enlist rq => Sys2Proof.Machine.execEnlist rq s
  | .withdraw rq => Sys2Proof.Machine.execWithdraw rq s
  | .clearSlot rq => Sys2Proof.Machine.execClearSlot rq s
  | .clearLine rq => Sys2Proof.Machine.execClearLine rq s
  | .standby rq => Sys2Proof.Machine.execStandby rq s
  | .wake rq => Sys2Proof.Machine.execWake rq s
  | .purge rq => Sys2Proof.Machine.execPurge rq s
  | .speed rq => Sys2Proof.Machine.execSpeed rq s
  | .acknowledge rq => Sys2Proof.Machine.execAcknowledge rq s
  | .lineReset rq => Sys2Proof.Machine.execLineReset rq s
  | .encoderSample enc x => Sys2Proof.Machine.execEncoderSample enc x s
  | .encoderStale enc time => Sys2Proof.Machine.execEncoderStale enc time s
  | .probeSample zone half x => Sys2Proof.Machine.execProbeSample zone half x s
  | .halfExpiry zone half time => Sys2Proof.Machine.execHalfExpiry zone half time s
  | .unwindStatusSample unwind x => Sys2Proof.Machine.execUnwindStatusSample unwind x s
  | .unwindDiameterSample unwind x => Sys2Proof.Machine.execUnwindDiameterSample unwind x s
  | .splicerStatusSample x => Sys2Proof.Machine.execSplicerStatusSample x s
  | .spliceTimeout time => Sys2Proof.Machine.execSpliceTimeout time s
  | .takeUpDiameterSample x => Sys2Proof.Machine.execTakeUpDiameterSample x s
  | .takeUpStatusSample x => Sys2Proof.Machine.execTakeUpStatusSample x s
  | .cutTimeout time => Sys2Proof.Machine.execCutTimeout time s

end Sys2Proof.Machine
end

