-- ==== Sys2Proof/Machine/Step.lean ====
section
/-! DEFINITION. One step of the part: the command at the front of the queue is taken whole. -/
namespace Sys2Proof.Machine

/-- The state with other commands waiting. -/
def State.withPending (s : State) (pending : List Instr) : State := { s with pending := pending }

/-- The front command taken with the rest left waiting; with none waiting the part idles (assumption 1). -/
def step (s : State) : Host.Outcome State Fault Refusal :=
  match s.pending with
  | [] => .next s
  | i :: rest => exec i (s.withPending rest)

/-- The command a table word spells put at the front of the queue. No row of the table gives bits, so no word spells
one and the state stands. -/
def State.withFetchWord (s : State) (nbits w : Nat) : State :=
  match decodeTableWord nbits w with
  | some i => s.withPending (i :: s.pending)
  | none => s

end Sys2Proof.Machine
end

