-- ==== Sys2Proof/Safety.lean ====
section
/-! DEFINITION. What the statements about the part speak in: the request or sample a command carries, when MU serves a
request, and the conditions every step keeps. -/
namespace Sys2Proof

/-- The REQ code and the request a request command carries (section 11.1). -/
def Instr.asRequest : Instr → Option (Byte × Request)
  | .requestUnknown code rq => some (code, rq)
  | .write rq => some (1, rq)
  | .continueWrite rq => some (2, rq)
  | .closeWrite rq => some (3, rq)
  | .read rq => some (4, rq)
  | .status rq => some (5, rq)
  | .start rq => some (6, rq)
  | .stop rq => some (7, rq)
  | .restart rq => some (8, rq)
  | .release rq => some (9, rq)
  | .admitPiece rq => some (10, rq)
  | .enlist rq => some (11, rq)
  | .withdraw rq => some (12, rq)
  | .clearSlot rq => some (13, rq)
  | .clearLine rq => some (13, rq)
  | .standby rq => some (14, rq)
  | .wake rq => some (15, rq)
  | .purge rq => some (16, rq)
  | .speed rq => some (17, rq)
  | .acknowledge rq => some (18, rq)
  | .lineReset rq => some (19, rq)
  | .resetAssert => none
  | .resetRelease _ _ => none
  | .patternClearDone _ => none
  | .frameReceived _ _ => none
  | .portFree _ => none
  | .writeTimeout _ => none
  | .encoderSample _ _ => none
  | .encoderStale _ _ => none
  | .probeSample _ _ _ => none
  | .halfExpiry _ _ _ => none
  | .unwindStatusSample _ _ => none
  | .unwindDiameterSample _ _ => none
  | .splicerStatusSample _ => none
  | .spliceTimeout _ => none
  | .takeUpDiameterSample _ => none
  | .takeUpStatusSample _ => none
  | .cutTimeout _ => none

/-- The role and the sample a sample command carries (R186). -/
def Instr.asSample : Instr → Option (Machine.Role × Sample)
  | .encoderSample enc x => some (.encoder enc, x)
  | .probeSample zone half x => some (.probe zone half, x)
  | .unwindStatusSample unwind x => some (.unwindStatus unwind, x)
  | .unwindDiameterSample unwind x => some (.unwindDiameter unwind, x)
  | .splicerStatusSample x => some (.splicerStatus, x)
  | .takeUpDiameterSample x => some (.takeUpDiameter, x)
  | .takeUpStatusSample x => some (.takeUpStatus, x)
  | .resetAssert => none
  | .resetRelease _ _ => none
  | .patternClearDone _ => none
  | .frameReceived _ _ => none
  | .portFree _ => none
  | .requestUnknown _ _ => none
  | .write _ => none
  | .continueWrite _ => none
  | .closeWrite _ => none
  | .writeTimeout _ => none
  | .read _ => none
  | .status _ => none
  | .start _ => none
  | .stop _ => none
  | .restart _ => none
  | .release _ => none
  | .admitPiece _ => none
  | .enlist _ => none
  | .withdraw _ => none
  | .clearSlot _ => none
  | .clearLine _ => none
  | .standby _ => none
  | .wake _ => none
  | .purge _ => none
  | .speed _ => none
  | .acknowledge _ => none
  | .lineReset _ => none
  | .encoderStale _ _ => none
  | .halfExpiry _ _ _ => none
  | .spliceTimeout _ => none
  | .cutTimeout _ => none

namespace Machine

/-! ### When a request is served -/

/-- RP hands MU a request it can answer, and the pattern-memory clear is over (R180, R193, R196). -/
abbrev reachesMU (rq : Request) (s : State) : Prop :=
  online s = true ∧ answerable rq = true ∧ s.px.clearing = false

/-- A request MU takes from a source with no open write of its own (R196, R198). -/
abbrev served (rq : Request) (s : State) : Prop := reachesMU rq s ∧ ownsWrite rq.src s = false

/-- RP hands a sample of good quality to its owner (R186). -/
abbrev sampled (x : Sample) (s : State) : Prop := online s = true ∧ x.qual = 0

/-! ### The node map -/

/-- A node map entry binds a role: it is valid and carries the role's code, and for a probe or a valve its zone, 1 to 8, and
its half (R183, R194). -/
abbrev entryBinds (e : NodeEntry) (r : Role) : Prop :=
  e.valid = true ∧
    match r with
    | .encoder .infeed => e.role = 1
    | .encoder .belt => e.role = 2
    | .probe z h => e.role = 3 ∧ e.zone.toNat = z.val + 1 ∧ e.half = h
    | .unwindStatus .a => e.role = 4
    | .unwindDiameter .a => e.role = 5
    | .unwindStatus .b => e.role = 6
    | .unwindDiameter .b => e.role = 7
    | .splicerStatus => e.role = 8
    | .takeUpDiameter => e.role = 9
    | .takeUpStatus => e.role = 10
    | .act .blade => e.role = 16
    | .act .infeedDrive => e.role = 17
    | .act .beltDrive => e.role = 18
    | .act (.valve z h) => e.role = 19 ∧ e.zone.toNat = z.val + 1 ∧ e.half = h
    | .act .splicer => e.role = 20
    | .act .knife => e.role = 21
    | .act .turret => e.role = 22

/-! ### A line fault, and the cells beside the splice -/

/-- Every cell stands, but for SEAM marks a seam record may set (R85, R145). -/
abbrev cellsStand (s t : State) : Prop :=
  t.cl.map (fun c => { c with seam := false }) = s.cl.map fun c => { c with seam := false }

/-- The state after a line fault of a cause: LINE_FAULT held, a line not in FAULT put there with that cause and the belt
command 0, a line in FAULT given it as a further cause and its pending CLEAR cancelled (R173). -/
abbrev faultsLine (cause : LineFault) (s t : State) : Prop :=
  flagHeld .lineFault t = true ∧
    (s.lc.line ≠ .fault →
      t.lc = { s.lc with line := .fault, cause := some cause, further := 0, clearPending := false, restCount := 0 } ∧
        t.sg.belt = 0) ∧
    (s.lc.line = .fault →
      t.lc = { s.lc with further := s.lc.further ||| BitVec.twoPow 5 (cause.code - 1), clearPending := false } ∧
        t.sg = s.sg ∧ t.act = s.act ∧ t.fs = s.fs) ∧
    t.pq = s.pq ∧ t.cl = s.cl ∧ t.pt = s.pt ∧ t.zr = s.zr ∧ t.da = s.da ∧ t.sc = s.sc ∧ t.tc = s.tc ∧ t.px = s.px ∧
    t.nm = s.nm ∧ t.rp = s.rp ∧ t.mu.openWrite = s.mu.openWrite ∧ t.fs.cursor = s.fs.cursor ∧ t.fs.formed = s.fs.formed ∧
    t.clock = s.clock

/-! ### Zones put to standby -/

/-- STANDBY has reached the zones of `f`: an enabled one that is HEATING, WAKING or READY settles toward its standby point,
every other zone stands, and the locks are judged again, one newly engaged giving the even zone the odd zone's openings
(R97, R104). -/
abbrev stoodBy (f : Fin 8 → Bool) (s t : State) : Prop :=
  (∀ z : Fin 8,
    let old := s.zr.zones[z]
    let new := t.zr.zones[z]
    let moves := f z = true ∧ old.stored.length ≠ 0 ∧ (old.state = .heating ∨ old.state = .waking ∨ old.state = .ready)
    new.stored = old.stored ∧ new.stale = old.stale ∧ new.temp = old.temp ∧
      (moves → new.state = .standbySettling ∧ new.target = some old.stored.standbyPoint ∧ new.inBand = 0) ∧
      (¬moves → new.state = old.state ∧ new.target = old.target ∧ new.inBand = old.inBand)) ∧
    ∀ p : Fin 4,
      let odd := t.zr.zones[oddZone p]
      let even := t.zr.zones[evenZone p]
      (t.zr.locks[p] = true ↔
        odd.stored.lock = true ∧ odd.stored.length ≠ 0 ∧ even.stored.length ≠ 0 ∧ odd.state ≠ .shut ∧ even.state ≠ .shut ∧
          even.stored.manual = false ∧ odd.target = even.target) ∧
        ∀ h : Half, odd.half h = s.zr.zones[oddZone p].half h ∧
          (t.zr.locks[p] = false ∨ s.zr.locks[p] = true → even.half h = s.zr.zones[evenZone p].half h) ∧
          (t.zr.locks[p] = true → s.zr.locks[p] = false →
            let opening := min (odd.half h).valve even.stored.valveMax
            even.half h = { s.zr.zones[evenZone p].half h with valve := opening, lastSent := some opening })

/-- What an entry to STOPPED from STOPPING or FAULT does to the zones: with standby-on-stop set a STANDBY of ALL, with it
clear nothing (R98). -/
abbrev standbyTaken (s t : State) : Prop :=
  (s.lc.record.standbyOnStop = true → stoodBy (fun _ => true) s t) ∧ (s.lc.record.standbyOnStop = false → t.zr = s.zr)

/-- The line has left FAULT: STOPPED with no cause and no CLEAR waiting, an encoder record in FAULT re-seeded at its held
position, the zones put to standby by standby-on-stop, and then the admission check (R33, R77, R98, R167, R174; the order by
assumption 9). -/
abbrev leavesFault (s t : State) : Prop :=
  let reseeded (e : EncoderRecord) : EncoderRecord :=
    if e.state = .fault then { e with state := .tracking, offset := e.held - e.raw, speed := 0 } else e
  ∃ v, t = admissionCheck v ∧
    v.lc = { s.lc with line := .stopped, cause := none, further := 0, clearPending := false } ∧ v.sg.belt = 0 ∧
    v.pq = s.pq ∧ v.sc = s.sc ∧ v.px = s.px ∧ v.cl = s.cl ∧ v.da = s.da ∧ v.tc = s.tc ∧ v.nm = s.nm ∧
    v.fs.cursor = s.fs.cursor ∧ v.fs.formed = s.fs.formed ∧ (s.fs.state ≠ .held → v.fs.state = s.fs.state) ∧
    v.pt.infeed = reseeded s.pt.infeed ∧ v.pt.belt = reseeded s.pt.belt ∧ v.pt.nextBoundary = s.pt.nextBoundary ∧
    standbyTaken s v

/-! ### Conditions that every step keeps -/

/-- Pattern memory is canonical, and an open write still has an entry to store, inside its table (R197, R199). -/
abbrev writesInBounds (s : State) : Prop :=
  Memory.wf s.px.mem = true ∧
    ∀ w ∈ s.mu.openWrite, w.stored < w.requested ∧ w.pointer + (w.requested - w.stored) ≤ w.table.records

/-- The forward buffer, the REPORT queue and the ACT queue hold no more than they can, and the ACT frames stand oldest
first (R60, R181, R187, R190). -/
abbrev queuesInBounds (s : State) : Prop :=
  s.rp.forward.length ≤ 8 ∧ s.report.length ≤ 16 ∧ bladeCount s.act ≤ 4 ∧
    ((s.act.entries.map ActEntry.role).filter fun r => decide (r ≠ .blade)).Nodup ∧
    s.act.entries.Pairwise (fun a b => a.placement < b.placement) ∧
    ∀ e ∈ s.act.entries, e.placement < s.act.next

/-- The belt command is what the table of R125 gives for the limits last computed, under a line record whose crawl is
within its belt max (R176). -/
abbrev beltByTable (s : State) : Prop :=
  s.lc.record.crawl ≤ s.lc.record.beltMax ∧
    match s.lc.line with
    | .running =>
      s.sg.belt =
        if min (min s.lc.record.setpoint s.sg.vHeat) (min s.sg.vInf s.lc.record.beltMax) < s.lc.record.crawl ∧
            s.lc.record.crawl ≤ s.lc.record.setpoint then s.lc.record.crawl
        else min (min s.lc.record.setpoint s.sg.vHeat) (min s.sg.vInf s.lc.record.beltMax)
    | .hold => s.sg.belt = min s.lc.record.crawl s.lc.record.setpoint
    | .stopping => s.sg.belt = 0
    | .stopped => s.sg.belt = 0
    | .fault => s.sg.belt = 0

/-- At most one unwind is ACTIVE (R129). -/
abbrev oneActiveUnwind (s : State) : Prop :=
  ¬(s.sc.unwindA.state = .active ∧ s.sc.unwindB.state = .active)

/-- The splicer's target and firing time are held in the states that have them, and a standby stands by in the states
that need one (R132, R136, R139). -/
abbrev splicerConsistent (s : State) : Prop :=
  (s.sc.state = .window ↔ s.sc.target.isSome = true) ∧ (s.sc.state = .firing ↔ s.sc.firing.isSome = true) ∧
    (s.sc.state = .ready ∨ s.sc.state = .armed ∨ s.sc.state = .window → (standbyUnwind s.sc).isSome = true)

/-- No two valid node map entries bind one role or one pair, and each binds a role to another node (R183, R184). -/
abbrev nodeMapDistinct (s : State) : Prop :=
  (∀ i : Fin 64, s.nm[i].valid = true → s.nm[i].node ≠ 0 ∧ s.nm[i].node ≠ s.rp.address ∧ s.nm[i].binds.isSome = true) ∧
    ∀ i j : Fin 64, i ≠ j → s.nm[i].valid = true → s.nm[j].valid = true →
      s.nm[i].binds ≠ s.nm[j].binds ∧ ¬(s.nm[i].node = s.nm[j].node ∧ s.nm[i].channel = s.nm[j].channel)

/-- No two valid lookaside entries hold one index (R4). -/
abbrev lookasideDistinct (s : State) : Prop :=
  ∀ i j : Fin 32, i ≠ j → s.px.lookaside[i].valid = true → s.px.lookaside[j].valid = true →
    s.px.lookaside[i].tag ≠ s.px.lookaside[j].tag

/-- The run list holds distinct slots, its head ACTIVE or FAULTED and its other members LOADED or FAULTED; no slot
outside it is ACTIVE (R28). -/
abbrev runListInOrder (s : State) : Prop :=
  s.pq.runList.Nodup ∧
    (∀ i ∈ s.pq.runList.head?, s.pq.slots[i].state = .active ∨ s.pq.slots[i].state = .faulted) ∧
    (∀ i ∈ s.pq.runList.tail, s.pq.slots[i].state = .loaded ∨ s.pq.slots[i].state = .faulted) ∧
    ∀ i : Fin 8, i ∉ s.pq.runList → s.pq.slots[i].state ≠ .active

/-- The piece queue holds at most 48 records with distinct ids in 1..65535, and the counter stands in that range
(R38, R39). -/
abbrev pieceIdsDistinct (s : State) : Prop :=
  s.pq.pieces.length ≤ 48 ∧ (s.pq.pieces.map Piece.id).Nodup ∧ (∀ p ∈ s.pq.pieces, 1 ≤ p.id ∧ p.id ≤ 65535) ∧
    1 ≤ s.pq.nextId ∧ s.pq.nextId ≤ 65535

/-- The sequencer follows HOLD, and draws no piece, under a flat ratio, when it is IDLE or STARVED (R61, R63, R64). -/
abbrev sequencerConsistent (s : State) : Prop :=
  (s.fs.state = .held → s.lc.line = .hold) ∧ (s.fs.state = .forming → s.lc.line ≠ .hold) ∧
    (s.fs.state = .idle ∨ s.fs.state = .starved → s.fs.cursor.piece = none ∧ s.fs.cursor.ratio = .flat)

/-- The cells' indices rise from the list's front, each dose and residue within its range (R81, R114). -/
abbrev cellsInOrder (s : State) : Prop :=
  s.cl.Pairwise (fun a b => a.index < b.index) ∧ ∀ c ∈ s.cl, c.dose ≤ 16777215 ∧ c.residue ≤ 999

/-- No valve stands above its zone's valve max (R101, R102, R104). -/
abbrev valvesLimited (s : State) : Prop :=
  ∀ z : Fin 8, s.zr.zones[z].upper.valve ≤ s.zr.zones[z].stored.valveMax ∧
    s.zr.zones[z].lower.valve ≤ s.zr.zones[z].stored.valveMax

/-- The lock of a pair of zones stands engaged exactly while its conditions hold (R104). -/
abbrev locksJudged (s : State) : Prop :=
  ∀ p : Fin 4,
    let odd := s.zr.zones[oddZone p]
    let even := s.zr.zones[evenZone p]
    s.zr.locks[p] = true ↔
      odd.stored.lock = true ∧ odd.stored.length ≠ 0 ∧ even.stored.length ≠ 0 ∧ odd.state ≠ .shut ∧ even.state ≠ .shut ∧
        even.stored.manual = false ∧ odd.target = even.target

/-- No manifest lists more than 64 ids, the roll number is in 1..65535, a closing manifest is held exactly while
CUTTING, and a state time exactly while CUTTING or INDEXING (R152, R154, R157, R159, R160). -/
abbrev takeUpConsistent (s : State) : Prop :=
  s.tc.current.ids.length ≤ 64 ∧ (∀ m ∈ s.tc.closing, m.ids.length ≤ 64) ∧
    1 ≤ s.tc.current.roll ∧ s.tc.current.roll ≤ 65535 ∧
    (s.tc.winder = .cutting ↔ s.tc.closing.isSome = true) ∧
    (s.tc.winder = .cutting ∨ s.tc.winder = .indexing ↔ s.tc.stateTime.isSome = true)

/-- A fault cause is held exactly in FAULT, further causes and a pending CLEAR only there, and a rest count, below 2,
only in STOPPING (R166, R171, R173, R174). -/
abbrev lineConsistent (s : State) : Prop :=
  (s.lc.line = .fault ↔ s.lc.cause.isSome = true) ∧
    (s.lc.line ≠ .fault → s.lc.further = 0 ∧ s.lc.clearPending = false) ∧
    s.lc.restCount ≤ 1 ∧ (s.lc.line ≠ .stopping → s.lc.restCount = 0)

/-- The filler length lies in its range, 3000 to 20,000 (section 9.5, R176). -/
abbrev fillerInRange (s : State) : Prop := 3000 ≤ s.lc.record.fillerLength ∧ s.lc.record.fillerLength ≤ 20000

end Machine
end Sys2Proof
end

