-- ==== Sys2Proof/Certificates/Slice0/Obligations.lean ====
section
/-! DEFINITION. The statements about the PH-620 that are left to be proved. Each cites the rules it rests on in
OBLIGATIONS.json; what it says of a clock field, of direct request rows, of reset straps and of passive parts is the
model's own reading, and its docstring names the log entry. -/
open Sys2Proof Sys2Proof.Machine

/-! ### Steps, reset and the pattern-memory clear -/

/-- A step takes the command at the front of the queue whole and leaves the rest waiting; with none waiting the part
idles (the model's choice, assumption 1). -/
def Obligations.StepTakesFrontCommand : Prop :=
  (∀ (c : Instr) (rest : List Instr) (s : State), step (s.withPending (c :: rest)) = exec c (s.withPending rest)) ∧
    ∀ s : State, s.pending = [] → step s = .next s

/-- Every command, whatever its operands and in every state, is taken: it never faults and is never refused by the
model, and the commands that wait go on waiting. -/
def Obligations.EveryCommandIsTaken : Prop :=
  ∀ (c : Instr) (s : State), ∃ t, exec c s = .next t ∧ t.pending = s.pending

/-- RESET_RELEASE sets every block to its hard reset value, with the straps as read, whether or not RESET_ASSERT came before
it (the model's choice, assumption 33) (R193 and each block's own reset rule). -/
def Obligations.ResetReleaseSetsEveryBlock : Prop :=
  ∀ (address : BitVec 6) (fast : Bool) (s : State), ∃ t, exec (.resetRelease address fast) s = .next t ∧
    t.rp = { inReset := false, address := address, fast := fast, forward := [], sending := none, sequence := 0 } ∧
    t.clock = 0 ∧ t.act.entries = [] ∧ t.report = [] ∧ (∀ e ∈ t.nm.toList, e.valid = false ∧ e = NodeEntry.reset) ∧
    t.mu.openWrite = none ∧ t.mu.flags = 0 ∧ t.px.clearing = true ∧ t.px.pointer = 0 ∧
    (∀ e ∈ t.px.lookaside.toList, e.valid = false) ∧ (∀ o ∈ t.pq.slots.toList, o = OrderSlot.reset) ∧
    t.pq.runList = [] ∧ t.pq.pieces = [] ∧ t.pq.nextId = 1 ∧ t.fs.state = .idle ∧ t.fs.cursor.piece = none ∧
    t.fs.formed = 0 ∧ t.fs.lastInfeed = 0 ∧ t.pt.infeed = EncoderRecord.reset ∧ t.pt.belt = EncoderRecord.reset ∧
    t.pt.nextBoundary = 0 ∧ t.cl = [] ∧ (∀ z ∈ t.zr.zones.toList, z = Zone.reset) ∧
    (∀ k ∈ t.da.classes.toList, k = { tbase := 0, dmin := 0, dmax := 0, margin := 0, splice := 0 }) ∧
    (∀ x ∈ t.da.lastAccrual.toList, x = none) ∧
    t.sg = { belt := 0, vHeat := 0, vInf := 0, governing := none, requirement := 0, exitMark := none } ∧
    t.sc.unwindA = UnwindRecord.reset ∧ t.sc.unwindB = UnwindRecord.reset ∧ t.sc.state = .idle ∧ t.sc.target = none ∧
    t.sc.seam = none ∧ t.sc.firing = none ∧ t.sc.lastStatus = none ∧ t.tc.winder = .winding ∧ t.tc.diameter = none ∧
    t.tc.lastStatus = none ∧ t.tc.current = { roll := 1, ids := [], unlisted := 0 } ∧ t.tc.closing = none ∧
    t.tc.currentPiece = none ∧ t.tc.lastOrder = none ∧ t.tc.forced = false ∧ t.tc.heldOrder = false ∧
    t.tc.stateTime = none ∧ t.lc.line = .stopped ∧ t.lc.cause = none ∧ t.lc.further = 0 ∧ t.lc.clearPending = false ∧
    t.lc.restCount = 0 ∧ t.lc.record = LineRecord.reset ∧ t.lc.valid = false

/-- RESET_ASSERT silences both ports, every other field standing as it was (the model's choice, assumption 33), and until the
pin is released no other command has any effect (R193; the model's choice, assumption 7). PATTERN_CLEAR_DONE, out of reset, ends the clear: every entry reads zeros, requests are taken from then
on, and nothing else changes but the clock reading (R1, R209; the model's choice, assumptions 1 and 6). -/
def Obligations.ResetSilencesAndTheClearEnds : Prop :=
  (∀ s : State, exec .resetAssert s = .next { s with rp.inReset := true, rp.sending := none }) ∧
    (∀ (c : Instr) (s : State), s.rp.inReset = true → c ≠ .resetAssert →
      (∀ address fast, c ≠ .resetRelease address fast) → exec c s = .next s) ∧
    ∀ (time : Clock) (s : State), s.rp.inReset = false →
      (s.px.clearing = true →
        exec (.patternClearDone time) s = .next { setClock time s with px.mem := [], px.clearing := false } ∧
          ∀ i, i < 4096 → readEntry [] i = List.replicate 16 0) ∧
      (s.px.clearing = false → exec (.patternClearDone time) s = .next (setClock time s))

/-! ### Frames received -/

/-- A burst that is not a good frame, and any burst in reset, has no effect at all; a good frame that is not handed to a
block is stripped, discarded, or forwarded into a buffer of 8 (R179, R180, R181, R182, R193; the model's choice, assumption 40). -/
def Obligations.ReceivedFramesAreDisposedOf : Prop :=
  (∀ (burst : List Byte) (time : Clock) (s : State),
    (s.rp.inReset = true ∨ byteAt burst 0 ≠ 0xA6 ∨ 64 < lenField burst ∨ burst.length ≠ 12 + lenField burst ∨
      (crc (checkedBytes burst)).toNat ≠ field burst (10 + lenField burst) 2) →
    exec (.frameReceived burst time) s = .next s) ∧
  ∀ (burst : List Byte) (time : Clock) (s : State), s.rp.inReset = false → goodFrame burst = true →
    let f := frameOf burst
    let forwarded : State :=
      { setClock time s with
        rp.forward := if s.rp.forward.length < 8 then s.rp.forward ++ [burst] else s.rp.forward }
    (s.rp.address = 0 → exec (.frameReceived burst time) s = .next forwarded) ∧
    (s.rp.address ≠ 0 → f.src = ownAddress s → exec (.frameReceived burst time) s = .next (setClock time s)) ∧
    (s.rp.address ≠ 0 → f.src ≠ ownAddress s → f.kind = 3 → f.dst = ownAddress s →
      (f.payload.length < 2 ∨ ¬(1 ≤ f.src.toNat ∧ f.src.toNat ≤ 63)) →
      exec (.frameReceived burst time) s = .next (setClock time s)) ∧
    (s.rp.address ≠ 0 → f.src ≠ ownAddress s → ¬(f.kind = 3 ∧ f.dst = ownAddress s) → f.kind ≠ 1 →
      exec (.frameReceived burst time) s = .next forwarded) ∧
    (s.rp.address ≠ 0 → f.src ≠ ownAddress s → f.kind = 1 →
      (f.payload.length ≠ 6 ∨ roleMet f s = none ∨ ∃ role, roleMet f s = some (.act role)) →
      exec (.frameReceived burst time) s = .next forwarded)

/-- A good REQUEST frame addressed to the part has exactly the effect of its request command, which the frame's first
payload byte names (R180, section 11.1; the model's choice, assumption 2). -/
def Obligations.RequestFramesAreTheirCommands : Prop :=
  ∀ (burst : List Byte) (time : Clock) (s : State) (c : Instr), s.rp.inReset = false → goodFrame burst = true →
    s.rp.address ≠ 0 → (frameOf burst).src ≠ ownAddress s → (frameOf burst).kind = 3 →
    (frameOf burst).dst = ownAddress s → 2 ≤ (frameOf burst).payload.length →
    c.asRequest = some (byteAt (frameOf burst).payload 0, requestOf (frameOf burst) time) →
    exec (.frameReceived burst time) s = exec c s

/-- A good SAMPLE frame whose source and channel a valid node map entry binds to a sample role has exactly the effect of
that role's sample command, and then joins the forward buffer if it has room (R181, R186; the model's choice, assumption 2).
The role it meets is the one bound by the valid entry whose node address is the frame's SRC and whose channel is its CH; with no
such entry it meets none (R183, R186, R194; the first of them, and no two stand in any state a run reaches,
MapAndLookasideStayDistinct). A sample whose QUAL is not 0 changes nothing but the clock reading (R73, R91, R129, R140, R150,
R186). -/
def Obligations.SampleFramesAreTheirCommands : Prop :=
  (∀ (f : Frame) (s : State),
    let meets (e : NodeEntry) : Prop :=
      e.valid = true ∧ e.node.toNat = f.src.toNat ∧ e.channel = byteAt f.payload 0
    ((∀ i : Fin 64, ¬meets s.nm[i]) → roleMet f s = none) ∧
      ∀ i : Fin 64, meets s.nm[i] → (∀ j : Fin 64, j < i → ¬meets s.nm[j]) →
        ∀ role : Role, roleMet f s = some role ↔ entryBinds s.nm[i] role) ∧
  (∀ (c : Instr) (role : Role) (x : Sample) (s : State), c.asSample = some (role, x) → online s = true → x.qual ≠ 0 →
    exec c s = .next (setClock x.time s)) ∧
  ∀ (burst : List Byte) (time : Clock) (s : State) (c : Instr) (role : Role), s.rp.inReset = false →
    goodFrame burst = true → s.rp.address ≠ 0 → (frameOf burst).src ≠ ownAddress s → (frameOf burst).kind = 1 →
    (frameOf burst).payload.length = 6 → roleMet (frameOf burst) s = some role →
    c.asSample = some (role, sampleOf (frameOf burst) time) →
    ∃ t, exec c s = .next t ∧ t.rp = s.rp ∧
      exec (.frameReceived burst time) s =
        .next
          { t with
            rp.forward := if s.rp.forward.length < 8 then s.rp.forward ++ [burst] else s.rp.forward }

/-! ### Frames sent -/

/-- PORT_FREE: forwarded traffic first, then the oldest ACT frame whose role is bound, the unbound ones before it being
discarded, then the oldest REPORT frame, else idle; at address 0 nothing of the part's own (R182, R188, R191, R192;
the model's choice, assumption 5). The payloads, field by field, most significant byte first: an ACT frame's channel,
command code and three arguments, those it does not list 0; a RESPONSE to its request's source and the EVENT, PIECE and ROLL
notices to every node, an unlisted count above 65,535 without a stated value (assumption 23) (R44, R162, R191, R194). A role
is bound by the valid entry that carries its code, and for a probe or a valve its zone and half; its frame goes to that entry's
node and channel (R183, R188; the first such entry, and no two stand in any state a run reaches). -/
def Obligations.PortFreeSendsInOrder : Prop :=
  (∀ (e : NodeEntry) (r : Role), e.binds = some r ↔ entryBinds e r) ∧
  (∀ (r : Role) (s : State),
    (bindingOf r s = none ↔ ∀ i : Fin 64, ¬entryBinds s.nm[i] r) ∧
      ∀ i : Fin 64, entryBinds s.nm[i] r → (∀ j : Fin 64, j < i → ¬entryBinds s.nm[j] r) →
        bindingOf r s = some s.nm[i]) ∧
  (∀ channel : Byte,
    let act (code arg1 arg2 arg3 : Nat) : List Byte :=
      [channel] ++ byte code ++ beBytes 2 arg1 ++ beBytes 2 arg2 ++ beBytes 2 arg3
    (∀ (left right : Nat) (d : Dir),
      actPayload channel (.fold left right d) = act 1 left right (match d with | .left => 0 | .right => 1)) ∧
      (∀ v, actPayload channel (.speed v) = act 2 v 0 0) ∧ (∀ v, actPayload channel (.valve v) = act 3 v 0 0) ∧
      (∀ u : Unwind, actPayload channel (.splice u) = act 4 (match u with | .a => 0 | .b => 1) 0 0) ∧
      (∀ roll, actPayload channel (.cut roll) = act 5 roll 0 0) ∧ ∀ roll, actPayload channel (.index roll) = act 6 roll 0 0) ∧
  (∀ r : Report,
    let bit (n : Nat) (b : Bool) : Nat := if b = true then 2 ^ n else 0
    let notice := reportDst r = 0xFF ∧ reportKind r = 5
    match r with
    | .response dst req tag status reason count data =>
      reportDst r = dst ∧ reportKind r = 4 ∧
        reportPayload r =
          [req, tag] ++ byte (match status with | .done => 0 | .partialClose => 1 | .busy => 2 | .refused => 3) ++
            byte (match reason with
              | .none => 0 | .state => 1 | .range => 2 | .locked => 3 | .unknown => 4 | .length => 5 | .sequence => 6) ++
            beBytes 2 count ++ data
    | .event flag flags =>
      notice ∧
        reportPayload r =
          byte 1 ++
            byte (match flag with
              | .patternFault => 0 | .planAdjusted => 1 | .orderDone => 2 | .queueFull => 3 | .foldLost => 4
              | .heatShort => 5 | .zoneStale => 6 | .doseUnder => 7 | .doseOver => 8 | .spliceDone => 9
              | .spliceForced => 10 | .unwindLow => 11 | .cutDone => 12 | .cutForced => 13 | .lineFault => 14
              | .reportDropped => 15 | .trackGap => 16 | .reverse => 17) ++
            beBytes 3 flags.toNat
    | .piece id slot verdict doses flags offset =>
      notice ∧
        reportPayload r =
          byte 2 ++ beBytes 2 id ++ byte ((slot.map Fin.val).getD 0xFF) ++
            byte (match verdict with | .good => 0 | .uncertain => 1 | .under => 2 | .over => 3 | .filler => 4) ++
            beBytes 3 ((doses.map Prod.fst).getD 0) ++ beBytes 3 ((doses.map Prod.snd).getD 0) ++
            byte (bit 0 flags.filler + bit 1 flags.short + bit 2 flags.adjusted + bit 3 flags.spliced +
              bit 4 flags.spliceForced + bit 5 flags.cutForced + bit 6 flags.split + bit 7 flags.foldLost) ++
            beBytes 3 (offset.getD 0xFFFFFF)
    | .roll roll frame frames idCount unlisted ids =>
      notice ∧
        ∃ count : List Byte, count.length = 2 ∧ (unlisted < 65536 → count = beBytes 2 unlisted) ∧
          reportPayload r =
            byte 3 ++ beBytes 2 roll ++ byte frame ++ byte frames ++ byte idCount ++ count ++
              (ids.map fun id => beBytes 2 id).flatten) ∧
  ∀ (time : Clock) (s : State), s.rp.inReset = false →
    (∀ f rest, s.rp.forward = f :: rest →
      exec (.portFree time) s = .next { setClock time s with rp.forward := rest, rp.sending := some f }) ∧
    (s.rp.forward = [] → s.rp.address = 0 →
      exec (.portFree time) s = .next { setClock time s with rp.sending := none }) ∧
    (∀ unbound e rest b, s.rp.forward = [] → s.rp.address ≠ 0 → s.act.entries = unbound ++ e :: rest →
      (∀ u ∈ unbound, bindingOf (.act u.role) s = none) → bindingOf (.act e.role) s = some b →
      exec (.portFree time) s =
        .next
          { setClock time s with
            act.entries := rest
            rp.sending := some (ownFrame (b.node.setWidth 8) 2 (actPayload b.channel e.command) (setClock time s))
            rp.sequence := s.rp.sequence + 1 }) ∧
    (∀ r rest, s.rp.forward = [] → s.rp.address ≠ 0 → (∀ u ∈ s.act.entries, bindingOf (.act u.role) s = none) →
      s.report = r :: rest →
      exec (.portFree time) s =
        .next
          { setClock time s with
            act.entries := []
            report := rest
            rp.sending := some (ownFrame (reportDst r) (reportKind r) (reportPayload r) (setClock time s))
            rp.sequence := s.rp.sequence + 1 }) ∧
    (s.rp.forward = [] → s.rp.address ≠ 0 → (∀ u ∈ s.act.entries, bindingOf (.act u.role) s = none) → s.report = [] →
      exec (.portFree time) s = .next { setClock time s with act.entries := [], rp.sending := none })

/-- A frame of the part's own is a good frame, and every node reads from it the addressee, the kind, the stamp and the
payload it was built from, with the part's own address as SRC (R179, R188, R194, R195). -/
def Obligations.OwnFramesReadBackWhole : Prop :=
  ∀ (dst kind : Byte) (payload : List Byte) (s : State), payload.length ≤ 64 →
    goodFrame (ownFrame dst kind payload s) = true ∧
      frameOf (ownFrame dst kind payload s) =
        { dst := dst, src := ownAddress s, kind := kind, stamp := s.clock, payload := payload
          raw := ownFrame dst kind payload s } ∧
      byteAt (ownFrame dst kind payload s) 5 = s.rp.sequence

/-- A stored table entry, sent back as it reads, is the same entry: classes, zones, the line record, the node map and
the loaded fields of an order slot lose nothing in their byte layouts (R194). A pattern entry as stored keeps VALID, KIND,
FLAT and every field of its kind exactly as sent, has its unused bits 0, and is stored again as the same 16 bytes; one of
the fourth code, whose layout R194 does not give, keeps its bytes 1 to 15 (the model's choice, assumption 35). The records of
the tables as a READ gives them are their fields in byte order, each with the fields it adds to the written entry; the bytes of
a fault record that is absent are free but for its kind, 0 (assumption 36) (R3, R27, R90, R107, R176, R183). -/
def Obligations.TableEntriesReadBackWhole : Prop :=
  (∀ k : ClassRecord, k.legal = true → ClassRecord.ofBytes k.bytes = k) ∧
    (∀ z : ZoneStored, z.inRange = true → ZoneStored.ofBytes z.bytes = z) ∧
    (∀ (r : LineRecord) (zoneEnd : Nat) (valid : Bool), r.legal zoneEnd = true →
      LineRecord.ofBytes (r.bytes valid) = (r, r.fillerClass.val)) ∧
    (∀ e : NodeEntry, NodeEntry.ofBytes e.bytes = e) ∧
    (∀ o : OrderSlot, o.origin < 4096 → o.length < 128 → o.flatLength < 16777216 → o.gradeIndex < 32 →
      o.requested < 65536 → o.done < 65536 → o.cursor < 64 →
      OrderSlot.ofBytes o.bytes = { o with state := .loaded, load := 0, fault := none }) ∧
    (∀ e : List Byte, e.length = 16 →
      let c := cleanEntry e
      c.length = 16 ∧ cleanEntry c = c ∧ entryValid c = entryValid e ∧ entryKind c = entryKind e ∧
        entryFlat c = entryFlat e ∧ (∀ n, n < 4 → bitAt c 0 n = false) ∧
        (entryKind e = some .grade →
          gradeOrigin c = gradeOrigin e ∧ gradeLength c = gradeLength e ∧ gradeClass c = gradeClass e ∧
            bitAt c 4 7 = bitAt e 4 7 ∧ field c 1 2 < 4096 ∧ field c 3 1 < 128 ∧
            (∀ n, n < 3 → bitAt c 4 (4 + n) = false) ∧ ∀ k, 5 ≤ k → k < 16 → byteAt c k = 0) ∧
        (entryKind e = some .panel →
          panelMirror c = panelMirror e ∧ panelUniform c = panelUniform e ∧ panelClass c = panelClass e ∧
            bitAt c 1 5 = bitAt e 1 5 ∧ bitAt c 1 4 = false ∧
            (panelUniform e = true → storedRun c 2 false = storedRun e 2 false ∧ byteAt c 15 = 0) ∧
            (panelUniform e = false →
              panelRunOrigin c = panelRunOrigin e ∧ panelRunCount c = panelRunCount e ∧ field c 2 2 < 4096 ∧
                field c 4 1 < 16 ∧ ∀ k, 5 ≤ k → k < 16 → byteAt c k = 0)) ∧
        (entryKind e = some .run →
          storedRun c 1 (entryFlat c) = storedRun e 1 (entryFlat e) ∧ byteAt c 14 = 0 ∧ byteAt c 15 = 0) ∧
        (entryKind e = none → c.drop 1 = e.drop 1)) ∧
  ∀ s : State,
    (∀ i, tableRecord .pattern i s = readEntry s.px.mem i) ∧
    (∀ i : Fin 64,
      let e := s.nm[i]
      tableRecord .nodeMap i.val s =
        byte ((if e.valid = true then 128 else 0) + e.node.toNat) ++ [e.channel, e.role] ++
          byte (e.zone.toNat + (match e.half with | .upper => 0 | .lower => 16))) ∧
    (∀ i : Fin 16,
      let k := s.da.classes[i]
      tableRecord .classes i.val s =
        beBytes 2 k.tbase ++ beBytes 3 k.dmin ++ beBytes 3 k.dmax ++ beBytes 2 k.margin ++ beBytes 2 k.splice) ∧
    (∀ i : Fin 8,
      let z := s.zr.zones[i]
      let e := z.stored
      let state := match z.state with
        | .shut => 0 | .heating => 1 | .ready => 2 | .waking => 3 | .standbySettling => 4 | .standby => 5
      let half (h : HalfRecord) : List Byte :=
        beBytes 2 (h.temp.getD 0xFFFF) ++ byte (match h.fresh with | .unseen => 0 | .fresh => 1 | .out => 2) ++
          beBytes 2 h.valve ++ beBytes 2 (h.lastSent.getD 0xFFFF)
      tableRecord .zones i.val s =
        byte e.start ++ byte e.length ++ beBytes 2 e.setpoint ++ beBytes 2 e.standbyPoint ++ byte e.band ++
          beBytes 2 e.fastThreshold ++ beBytes 2 e.stepFast ++ beBytes 2 e.stepSlow ++ beBytes 2 e.valveMax ++
          byte ((if e.lock = true then 1 else 0) + (if e.manual = true then 2 else 0)) ++ beBytes 2 e.manualUpper ++
          beBytes 2 e.manualLower ++ byte (state + if z.stale = true then 128 else 0) ++
          beBytes 2 (z.target.getD 0xFFFF) ++ beBytes 2 (z.temp.getD 0xFFFF) ++ byte z.inBand ++ half z.upper ++
          half z.lower) ∧
    (let r := s.lc.record
     tableRecord .line 0 s =
       beBytes 2 r.crawl ++ beBytes 2 r.beltMax ++ beBytes 2 r.infeedMax ++ beBytes 2 r.setpoint ++
         beBytes 3 r.spliceDistance ++ beBytes 2 r.reactionMargin ++ beBytes 2 r.seamMargin ++ beBytes 3 r.spliceHorizon ++
         beBytes 2 r.spliceDiameter ++ beBytes 2 r.forcedDiameter ++ beBytes 2 r.fullDiameter ++ beBytes 2 r.hardFull ++
         byte r.knife ++ beBytes 2 r.fillerLength ++ byte r.fillerClass.val ++ byte r.depth ++
         byte ((if r.perOrder = true then 1 else 0) + (if r.continuous = true then 2 else 0) +
           (if r.pauseOnRestart = true then 4 else 0) + (if r.standbyOnStop = true then 8 else 0)) ++
         beBytes 3 r.enables.toNat ++ byte (if s.lc.valid = true then 1 else 0)) ∧
    ∀ i : Fin 8,
      let o := s.pq.slots[i]
      let dtype := match o.dtype with | .grade => 0 | .style => 1 | .panel => 2 | .flat => 3
      let state := match o.state with | .empty => 0 | .loaded => 1 | .active => 2 | .done => 3 | .faulted => 4
      ∃ fault, fault.length = 5 ∧
        tableRecord .orders i.val s =
          byte dtype ++ beBytes 2 o.origin ++ byte o.length ++ beBytes 3 o.flatLength ++ byte o.gradeIndex ++
            byte o.cls.val ++ beBytes 2 o.requested ++ beBytes 2 o.done ++ byte o.cursor ++ byte state ++
            byte o.load.toNat ++ fault ∧
        (o.fault = none → byteAt fault 0 = 0 ∧ (o.state = .empty → fault = [0, 0, 0, 0, 0])) ∧
        ∀ f, o.fault = some f →
          fault =
            byte (match f.kind with | .invalid => 1 | .type => 2 | .range => 3 | .empty => 4 | .limit => 5) ++
              beBytes 2 f.entry ++ byte (match f.level with | .grade => 0 | .style => 1 | .panel => 2 | .plan => 3) ++
              byte f.cursor

/-! ### What every request meets -/

/-- While pattern memory is being cleared every request is answered BUSY and has no other effect. Afterwards a code that
names no request is answered REFUSED UNKNOWN and a request of the wrong length REFUSED LENGTH, a START among them without
data (the model's choice, assumption 65), and neither changes anything else (R1, R196, R209). A CLOSE of the wrong length from
the source of an open write closes it first, PARTIAL with reason none, the closing response standing before the refusal (the
model's choice, assumption 11); one of any other source is only refused. A LINE RESET of the wrong length leaves every open
write open, its own source's too (the model's choice, assumption 38) (R196, R198). -/
def Obligations.BusyAndMalformedRequestsChangeNothing : Prop :=
  (∀ (c : Instr) (code : Byte) (rq : Request) (s : State), c.asRequest = some (code, rq) → online s = true →
    answerable rq = true → s.px.clearing = true →
    exec c s = .next (respond code.toNat rq .busy .none 0 [] (setClock rq.time s))) ∧
  (∀ (rq : Request) (s : State), served rq s →
    (∀ code : Byte, ¬(1 ≤ code.toNat ∧ code.toNat ≤ 19) →
      exec (.requestUnknown code rq) s = .next (refuse code.toNat rq .unknown (setClock rq.time s))) ∧
    (rq.args.length < 4 → exec (.write rq) s = .next (refuse 1 rq .length (setClock rq.time s))) ∧
    (rq.args.length ≠ 5 → exec (.read rq) s = .next (refuse 4 rq .length (setClock rq.time s))) ∧
    (rq.args.length ≠ 6 → exec (.acknowledge rq) s = .next (refuse 18 rq .length (setClock rq.time s))) ∧
    (rq.args.length ≠ 2 → exec (.speed rq) s = .next (refuse 17 rq .length (setClock rq.time s))) ∧
    (∀ c code, (c, code) ∈
        [(Instr.start rq, 6), (.stop rq, 7), (.restart rq, 8), (.release rq, 9), (.admitPiece rq, 10), (.lineReset rq, 19)] →
      rq.args ≠ [] → exec c s = .next (refuse code rq .length (setClock rq.time s))) ∧
    ∀ c code, (c, code) ∈
        [(Instr.status rq, 5), (.enlist rq, 11), (.withdraw rq, 12), (.clearSlot rq, 13), (.clearLine rq, 13),
          (.standby rq, 14), (.wake rq, 15), (.purge rq, 16)] →
      rq.args.length ≠ 1 → exec c s = .next (refuse code rq .length (setClock rq.time s))) ∧
  ∀ (rq : Request) (s : State), reachesMU rq s → rq.args ≠ [] →
    ((∀ w ∈ s.mu.openWrite, w.source ≠ rq.src) →
      exec (.closeWrite rq) s = .next (refuse 3 rq .length (setClock rq.time s))) ∧
    (∀ w, s.mu.openWrite = some w → w.source = rq.src →
      exec (.closeWrite rq) s =
        .next
          (refuse 3 rq .length
            (placeReport
              (.response w.source 1 w.tag .partialClose .none (w.requested - w.stored)
                (beBytes 2 w.pointer ++ byte w.stored))
              { setClock rq.time s with mu.openWrite := none }))) ∧
    exec (.lineReset rq) s = .next (refuse 19 rq .length (setClock rq.time s))

/-- A request other than CONTINUE, CLOSE or LINE RESET from the source of an open write breaks that write first: the
closing response, PARTIAL with reason SEQUENCE, is queued, and the request is then served as if no write had been open
(R197, R198). -/
def Obligations.OwnWriteIsBrokenFirst : Prop :=
  ∀ (c : Instr) (code : Byte) (rq : Request) (s : State) (w : OpenWrite), c.asRequest = some (code, rq) → code ≠ 2 →
    code ≠ 3 → code ≠ 19 → reachesMU rq s → s.mu.openWrite = some w → w.source = rq.src →
    exec c s =
      exec c
        (placeReport
          (.response w.source 1 w.tag .partialClose .sequence (w.requested - w.stored)
            (beBytes 2 w.pointer ++ byte w.stored))
          { setClock rq.time s with mu.openWrite := none })

/-- Placing a frame in the REPORT queue: appended, and a full queue of 16 first loses its oldest and raises
REPORT_DROPPED, whose own notice, when its enable is set, is placed in turn. Raising a flag: one that holds 0 becomes 1
and queues its EVENT notice exactly when its enable is set; one that holds 1 is left, and nothing is queued (R190,
R206). -/
def Obligations.FlagsAndReportsAreQueuedOnce : Prop :=
  (∀ (r : Report) (s : State),
    (s.report.length < 16 → placeReport r s = { s with report := s.report ++ [r] }) ∧
    (∀ old rest, s.report = old :: rest → s.report.length = 16 →
      (s.mu.flags.getLsbD 15 = true → placeReport r s = { s with report := rest ++ [r] }) ∧
      (s.mu.flags.getLsbD 15 = false → s.lc.record.enables.getLsbD 15 = false →
        placeReport r s = { s with report := rest ++ [r], mu.flags := s.mu.flags ||| 0x8000 }) ∧
      (s.mu.flags.getLsbD 15 = false → s.lc.record.enables.getLsbD 15 = true →
        placeReport r s =
          { s with
            report := rest.tail ++ [r, .event .reportDropped (s.mu.flags ||| 0x8000)]
            mu.flags := s.mu.flags ||| 0x8000 }))) ∧
  ∀ (f : Flag) (s : State),
    (s.mu.flags.getLsbD f.number = true → raise f s = s) ∧
    (s.mu.flags.getLsbD f.number = false → s.lc.record.enables.getLsbD f.number = false →
      raise f s = { s with mu.flags := s.mu.flags ||| BitVec.twoPow 18 f.number }) ∧
    (s.mu.flags.getLsbD f.number = false → s.lc.record.enables.getLsbD f.number = true →
      raise f s =
        placeReport (.event f (s.mu.flags ||| BitVec.twoPow 18 f.number))
          { s with mu.flags := s.mu.flags ||| BitVec.twoPow 18 f.number })

/-! ### Table writes -/

/-- A WRITE of one PATTERN entry stores it at its index and nothing else, in every line state, whatever its fields hold,
its unused bits 0 (those of the fourth code by the model's choice, assumption 35): the lookaside, every other entry and
every plan stand. A WRITE whose table, count and range fit opens the write and has the entries it carries taken; one that
carries none is answered DONE with the whole count remaining. While another source's write is open every WRITE is
answered BUSY, with reason none, COUNT 0 and no data (that by inference, assumption 63), and a table code, a count or a range that does not fit is refused RANGE (R2, R8, R194, R197, R199, R200). -/
def Obligations.WriteStoresOpensOrIsRefused : Prop :=
  (∀ (rq : Request) (s : State), served rq s → rq.args.length = 20 → field rq.args 0 1 = 1 → field rq.args 3 1 = 1 →
    field rq.args 1 2 < 4096 → s.mu.openWrite = none →
    let entry := cleanEntry (rq.args.drop 4)
    exec (.write rq) s =
        .next
          (respond 1 rq .done .none 0 (beBytes 2 (field rq.args 1 2 + 1) ++ byte 1)
            { setClock rq.time s with px.mem := writeEntry s.px.mem (field rq.args 1 2) entry }) ∧
      (Memory.wf s.px.mem = true →
        readEntry (writeEntry s.px.mem (field rq.args 1 2) entry) (field rq.args 1 2) = entry) ∧
      ∀ j, j ≠ field rq.args 1 2 →
        readEntry (writeEntry s.px.mem (field rq.args 1 2) entry) j = readEntry s.px.mem j) ∧
  (∀ (rq : Request) (s : State), served rq s → 4 ≤ rq.args.length → s.mu.openWrite.isSome = true →
    exec (.write rq) s = .next (respond 1 rq .busy .none 0 [] (setClock rq.time s))) ∧
  ∀ (rq : Request) (s : State), served rq s → s.mu.openWrite = none → 4 ≤ rq.args.length →
    (∀ t : Table, Table.ofCode (field rq.args 0 1) = some t → 1 ≤ field rq.args 3 1 →
      field rq.args 1 2 + field rq.args 3 1 ≤ t.records →
      let opened : OpenWrite :=
        { source := rq.src, table := t, tag := rq.tag, requested := field rq.args 3 1, pointer := field rq.args 1 2
          stored := 0, lastFrame := rq.time }
      exec (.write rq) s = .next (takeFrame 1 rq opened (rq.args.drop 4) (setClock rq.time s)) ∧
        (rq.args.length = 4 →
          exec (.write rq) s =
            .next
              (respond 1 rq .done .none (field rq.args 3 1) (beBytes 2 (field rq.args 1 2) ++ byte 0)
                { setClock rq.time s with mu.openWrite := some opened }))) ∧
    (¬(1 ≤ field rq.args 0 1 ∧ field rq.args 0 1 ≤ 6) →
      exec (.write rq) s = .next (refuse 1 rq .range (setClock rq.time s))) ∧
    (field rq.args 3 1 = 0 → exec (.write rq) s = .next (refuse 1 rq .range (setClock rq.time s))) ∧
    (∀ t : Table, Table.ofCode (field rq.args 0 1) = some t → t.records < field rq.args 1 2 + field rq.args 3 1 →
      exec (.write rq) s = .next (refuse 1 rq .range (setClock rq.time s)))

/-- A CONTINUE is refused when its source has no open write, closes a write it does not fit, and otherwise has its
entries taken at the write pointer (R201). The entries of a WRITE or CONTINUE frame, at most three, are taken one by one,
each against the state the one before it left: a refused one closes the write PARTIAL with its reason and ends the frame,
the last one requested closes it DONE, with reason LENGTH if bytes are left, bytes left otherwise close it PARTIAL with
reason LENGTH, and else it stays open with its timer started again (R200). A PATTERN entry so taken is stored at the write
pointer with its unused bits 0 (R2, R194; those of the fourth code by the model's choice, assumption 35). -/
def Obligations.ContinueIsJudgedInOrder : Prop :=
  (∀ (rq : Request) (s : State), reachesMU rq s →
    (ownsWrite rq.src s = false → exec (.continueWrite rq) s = .next (refuse 2 rq .sequence (setClock rq.time s))) ∧
    ∀ w : OpenWrite, s.mu.openWrite = some w → w.source = rq.src →
      let closed (reason : Reason) : State :=
        respond 2 rq .partialClose reason (w.requested - w.stored) (beBytes 2 w.pointer ++ byte w.stored)
          { setClock rq.time s with mu.openWrite := none }
      (rq.args.length < 2 → exec (.continueWrite rq) s = .next (closed .length)) ∧
      (2 ≤ rq.args.length → field rq.args 0 2 ≠ w.pointer → exec (.continueWrite rq) s = .next (closed .sequence)) ∧
      (2 ≤ rq.args.length → field rq.args 0 2 = w.pointer →
        exec (.continueWrite rq) s = .next (takeFrame 2 rq w (rq.args.drop 2) (setClock rq.time s)))) ∧
  (∀ (rq : Request) (s : State) (w : OpenWrite), reachesMU rq s → s.mu.openWrite = some w → w.source = rq.src →
    w.table = .pattern → w.stored < w.requested → rq.args.length = 18 → field rq.args 0 2 = w.pointer →
    exec (.continueWrite rq) s =
      .next
        (respond 2 rq .done .none (w.requested - (w.stored + 1)) (beBytes 2 (w.pointer + 1) ++ byte (w.stored + 1))
          { setClock rq.time s with
            px.mem := writeEntry s.px.mem w.pointer (cleanEntry (rq.args.drop 2))
            mu.openWrite :=
              if w.stored + 1 = w.requested then none
              else some { w with pointer := w.pointer + 1, stored := w.stored + 1, lastFrame := rq.time } })) ∧
  ∀ (code : Nat) (rq : Request) (w : OpenWrite) (entries : List (List Byte)) (left : List Byte) (reached : Nat → State),
    entries.length ≤ 3 → (∀ e ∈ entries, e.length = w.table.size) →
    (∀ k (h : k < entries.length), takeEntry w.table (w.pointer + k) entries[k] (reached k) = .stored (reached (k + 1))) →
    let n := entries.length
    let u := reached n
    let answer (status : ResponseStatus) (reason : Reason) (open1 : Option OpenWrite) : State :=
      respond code rq status reason (w.requested - (w.stored + n)) (beBytes 2 (w.pointer + n) ++ byte (w.stored + n))
        { u with mu.openWrite := open1 }
    let result := takeFrame code rq w (entries.flatten ++ left) (reached 0)
    (1 ≤ n → w.stored + n = w.requested → result = answer .done (if left = [] then .none else .length) none) ∧
      (w.stored + n < w.requested →
        (left = [] →
          result =
            answer .done .none
              (some { w with pointer := w.pointer + n, stored := w.stored + n, lastFrame := rq.time })) ∧
        (left ≠ [] → n = 3 ∨ left.length < w.table.size → result = answer .partialClose .length none) ∧
        ∀ reason, n < 3 → w.table.size ≤ left.length →
          takeEntry w.table (w.pointer + n) (left.take w.table.size) u = .refused reason →
          result = answer .partialClose reason none)

/-- A CLOSE ends its source's open write, answered PARTIAL with reason none and the remaining count; from a node with no
open write of its own it is refused SEQUENCE and changes nothing (R202). -/
def Obligations.CloseEndsOnlyItsOwnWrite : Prop :=
  ∀ (rq : Request) (s : State), reachesMU rq s → rq.args = [] →
    (∀ w : OpenWrite, s.mu.openWrite = some w → w.source = rq.src →
      exec (.closeWrite rq) s =
        .next
          (respond 3 rq .partialClose .none (w.requested - w.stored) (beBytes 2 w.pointer ++ byte w.stored)
            { setClock rq.time s with mu.openWrite := none })) ∧
    ((∀ w : OpenWrite, s.mu.openWrite = some w → w.source ≠ rq.src) →
      exec (.closeWrite rq) s = .next (refuse 3 rq .sequence (setClock rq.time s)))

/-- WRITE_TIMEOUT: 200 ms after its last frame an open write closes PARTIAL, reason SEQUENCE, with a closing response to
its source; before that, and with no write open, nothing changes (R197, R198; the model's choice, assumption 4). -/
def Obligations.WriteExpiresAfter200ms : Prop :=
  ∀ (time : Clock) (s : State), s.rp.inReset = false →
    (∀ w : OpenWrite, s.mu.openWrite = some w → 200 ≤ (time - w.lastFrame).toNat →
      exec (.writeTimeout time) s =
        .next
          (placeReport
            (.response w.source 1 w.tag .partialClose .sequence (w.requested - w.stored)
              (beBytes 2 w.pointer ++ byte w.stored))
            { setClock time s with mu.openWrite := none })) ∧
    ((∀ w : OpenWrite, s.mu.openWrite = some w → (time - w.lastFrame).toNat < 200) →
      exec (.writeTimeout time) s = .next (setClock time s))

/-- A CLASS entry is stored whole, in every line state, and only the governor acts on it at once; one outside its
ranges, or with Dmin above Dmax, changes nothing (R107, R108). A ZONE entry is refused RANGE with a field out of range,
then LOCKED when it moves the zone on a line not STOPPED, then RANGE when the zone would not fit beside the others below
K; otherwise it is stored whole (R88, R89). It disables the zone (SHUT, no target, no temperature, both valves 0 and a
VALVE frame for each half that last sent another opening), enables it (SHUT as it was, its temperature from its halves,
STALE with no FRESH half and one OUT), or leaves it enabled and moves its target when the setpoint in use changes (R99,
R100). Each valve comes down to a lowered valve max, and a manual zone not SHUT takes its manual values when the flag, the
values or the valve max change (R102, R103). The pair's lock is then engaged exactly when its conditions hold, and one newly
engaged gives the even zone the odd zone's openings; while it stays engaged each valve the entry sets in the odd zone is set in the
even zone too, limited to its own valve max, and no valve of the other zone moves else (R104; the order of these effects by the
model's choice, assumption 26; whether a lock was engaged is held in the state, assumption 22). A STALE zone whose start or length changes while it stays enabled marks no cell at once (the model's choice,
assumption 64). No other zone's stored part or state, no plan and no table else changes. -/
def Obligations.ClassEntryIsStoredWholeOrRefused : Prop :=
  (∀ (i : Fin 16) (bs : List Byte) (s : State),
    let k := ClassRecord.ofBytes bs
    (k.tbase ≤ 2500 ∧ k.margin ≤ 500 ∧ k.splice ≤ 1000 ∧ k.dmin ≤ k.dmax ∧ k.dmax ≤ 16777215 →
      ∃ t, takeEntry .classes i.val bs s = .stored t ∧ t = recompute { s with da.classes := s.da.classes.set i k } ∧
        t.da.classes = s.da.classes.set i k ∧ t.da.lastAccrual = s.da.lastAccrual ∧ t.px = s.px ∧ t.pq = s.pq ∧
        t.cl = s.cl ∧ t.zr = s.zr ∧ t.pt = s.pt ∧ t.sc = s.sc ∧ t.tc = s.tc ∧ t.lc = s.lc ∧ t.nm = s.nm) ∧
    (¬(k.tbase ≤ 2500 ∧ k.margin ≤ 500 ∧ k.splice ≤ 1000 ∧ k.dmin ≤ k.dmax ∧ k.dmax ≤ 16777215) →
      takeEntry .classes i.val bs s = .refused .range)) ∧
  ∀ (i : Fin 8) (bs : List Byte) (s : State),
    let e := ZoneStored.ofBytes bs
    let old := s.zr.zones[i]
    let ranged := e.start ≤ 127 ∧ e.length ≤ 127 ∧ e.setpoint ≤ 2500 ∧ e.standbyPoint ≤ 2500 ∧ 5 ≤ e.band ∧ e.band ≤ 200 ∧
      e.band < e.fastThreshold ∧ e.fastThreshold ≤ 1000 ∧ e.stepFast ≤ 1000 ∧ e.stepSlow ≤ 1000 ∧ e.valveMax ≤ 1000 ∧
      e.manualUpper ≤ 1000 ∧ e.manualLower ≤ 1000
    let locked := (e.start ≠ old.stored.start ∨ e.length ≠ old.stored.length) ∧ s.lc.line ≠ .stopped
    let fits := e.start + e.length ≤ s.lc.record.knife ∧
      ∀ y : Fin 8, y ≠ i → s.zr.zones[y].stored.length ≠ 0 →
        (y < i → s.zr.zones[y].stored.start + s.zr.zones[y].stored.length ≤ e.start) ∧
          (i < y → e.start + e.length ≤ s.zr.zones[y].stored.start)
    (¬ranged → takeEntry .zones i.val bs s = .refused .range) ∧
    (ranged → locked → takeEntry .zones i.val bs s = .refused .locked) ∧
    (ranged → ¬locked → e.length ≠ 0 → ¬fits → takeEntry .zones i.val bs s = .refused .range) ∧
    (ranged → ¬locked → e.length = 0 ∨ fits →
      ∃ t, takeEntry .zones i.val bs s = .stored t ∧
        let new := t.zr.zones[i]
        let manual := e.manual = true ∧ old.state ≠ .shut ∧
          (old.stored.manual = false ∨ e.manualUpper ≠ old.stored.manualUpper ∨ e.manualLower ≠ old.stored.manualLower ∨
            e.valveMax ≠ old.stored.valveMax)
        let expires := (old.upper.fresh ≠ .fresh ∧ old.lower.fresh ≠ .fresh) ∧
          (old.upper.fresh = .out ∨ old.lower.fresh = .out)
        new.stored = e ∧ new.upper.temp = old.upper.temp ∧ new.lower.temp = old.lower.temp ∧
        new.upper.fresh = old.upper.fresh ∧ new.lower.fresh = old.lower.fresh ∧
        (old.stored.length ≠ 0 → e.length = 0 →
          new.state = .shut ∧ new.stale = false ∧ new.target = none ∧ new.temp = none ∧ new.inBand = 0 ∧
            new.upper.valve = 0 ∧ new.lower.valve = 0 ∧ new.upper.lastSent = some 0 ∧ new.lower.lastSent = some 0 ∧
            (∀ h, (old.half h).lastSent ≠ some 0 →
              ∃ f ∈ t.act.entries, f.role = .valve i h ∧ f.command = .valve 0) ∧
            ∀ y : Fin 8, y ≠ i → t.zr.zones[y] = s.zr.zones[y]) ∧
        (old.stored.length = 0 → old.state = .shut → e.length ≠ 0 →
          new.state = .shut ∧ new.target = old.target ∧
            new.temp =
              (if old.upper.fresh = .fresh then
                if old.lower.fresh = .fresh then some ((old.upper.temp.getD 0 + old.lower.temp.getD 0) / 2) else old.upper.temp
              else if old.lower.fresh = .fresh then old.lower.temp else none) ∧
            (expires → new.stale = true ∧ new.inBand = 0 ∧ flagHeld .zoneStale t = true ∧
              ∀ c ∈ t.cl, e.start ≤ c.index → c.index < e.start + e.length → c.uncertain = true) ∧
            (¬expires → new.stale = old.stale ∧ new.inBand = old.inBand ∧ t.cl = s.cl)) ∧
        (old.stored.length ≠ 0 → e.length ≠ 0 →
          new.temp = old.temp ∧ new.stale = old.stale ∧ t.cl = s.cl ∧
            (old.state = .shut → new.state = .shut ∧ new.target = old.target ∧ new.inBand = old.inBand) ∧
            (old.state = .heating ∨ old.state = .waking ∨ old.state = .ready →
              (e.setpoint = old.stored.setpoint →
                new.state = old.state ∧ new.target = old.target ∧ new.inBand = old.inBand) ∧
              (e.setpoint ≠ old.stored.setpoint →
                new.state = (if old.state = .ready then .waking else old.state) ∧ new.target = some e.setpoint ∧
                  new.inBand = 0)) ∧
            (old.state = .standbySettling ∨ old.state = .standby →
              (e.standbyPoint = old.stored.standbyPoint →
                new.state = old.state ∧ new.target = old.target ∧ new.inBand = old.inBand) ∧
              (e.standbyPoint ≠ old.stored.standbyPoint →
                new.state = .standbySettling ∧ new.target = some e.standbyPoint ∧ new.inBand = 0))) ∧
        (e.length ≠ 0 ∨ old.stored.length = 0 →
          i.val % 2 = 0 ∨ t.zr.locks[pairOf i] = false ∨ s.zr.locks[pairOf i] = true →
          (manual →
            new.upper.valve = min e.manualUpper e.valveMax ∧ new.lower.valve = min e.manualLower e.valveMax ∧
              new.upper.lastSent = some new.upper.valve ∧ new.lower.lastSent = some new.lower.valve) ∧
          (¬manual → ∀ h : Half, (new.half h).valve = min (old.half h).valve e.valveMax ∧
            (e.valveMax < (old.half h).valve → (new.half h).lastSent = some e.valveMax) ∧
            ((old.half h).valve ≤ e.valveMax → new.half h = old.half h))) ∧
        (let p := pairOf i
         let o := t.zr.zones[oddZone p]
         let v := t.zr.zones[evenZone p]
         (t.zr.locks[p] = true ↔
            o.stored.lock = true ∧ o.stored.length ≠ 0 ∧ v.stored.length ≠ 0 ∧ o.state ≠ .shut ∧ v.state ≠ .shut ∧
              v.stored.manual = false ∧ o.target = v.target) ∧
           (t.zr.locks[p] = true → s.zr.locks[p] = false →
             ∀ h : Half, (v.half h).valve = min (o.half h).valve v.stored.valveMax ∧
               (v.half h).lastSent = some (v.half h).valve) ∧
           (i.val % 2 = 1 → o = s.zr.zones[oddZone p]) ∧
           (i.val % 2 = 0 → e.length ≠ 0 ∨ old.stored.length = 0 →
             ∀ h : Half,
               let stood := s.zr.zones[evenZone p].half h
               let copied : HalfRecord :=
                 let opening := min (o.half h).valve v.stored.valveMax
                 { stood with valve := opening, lastSent := some opening }
               (t.zr.locks[p] = true → s.zr.locks[p] = true →
                 (manual ∨ e.valveMax < (old.half h).valve → v.half h = copied) ∧
                   (¬manual → (old.half h).valve ≤ e.valveMax → v.half h = stood)) ∧
                 (t.zr.locks[p] = true → s.zr.locks[p] = false → v.half h = copied) ∧
                 (t.zr.locks[p] = false → v.half h = stood))) ∧
        (∀ y : Fin 8, y ≠ i →
          t.zr.zones[y].stored = s.zr.zones[y].stored ∧ t.zr.zones[y].state = s.zr.zones[y].state ∧
            t.zr.zones[y].target = s.zr.zones[y].target ∧ t.zr.zones[y].temp = s.zr.zones[y].temp ∧
            t.zr.zones[y].stale = s.zr.zones[y].stale ∧ t.zr.zones[y].inBand = s.zr.zones[y].inBand ∧
            (pairOf y ≠ pairOf i → t.zr.zones[y] = s.zr.zones[y])) ∧
        t.da = s.da ∧ t.pq = s.pq ∧ t.pt = s.pt ∧ t.sc = s.sc ∧ t.tc = s.tc ∧ t.lc = s.lc ∧ t.nm = s.nm ∧ t.px = s.px ∧
        t.fs.cursor = s.fs.cursor ∧ t.fs.state = s.fs.state ∧ t.fs.formed = s.fs.formed)

/-- An ORDER entry into a slot in the run list is refused LOCKED. Outside it, with nothing requested the slot becomes
EMPTY, an entry out of range is refused RANGE, any other makes the slot LOADED as sent; both stores step the load number, and no other slot changes
(R26). -/
def Obligations.OrderEntryLoadsItsSlot : Prop :=
  ∀ (i : Fin 8) (bs : List Byte) (s : State),
    let o := OrderSlot.ofBytes bs
    let fits := o.requested ≤ 9999 ∧ o.done < o.requested ∧
      (o.dtype = .flat → 3000 ≤ o.flatLength ∧ o.flatLength ≤ 200000)
    (i ∈ s.pq.runList → takeEntry .orders i.val bs s = .refused .locked) ∧
    (i ∉ s.pq.runList → o.requested = 0 →
      takeEntry .orders i.val bs s =
        .stored { s with pq.slots := s.pq.slots.set i { OrderSlot.reset with load := s.pq.slots[i].load + 1 } }) ∧
    (i ∉ s.pq.runList → o.requested ≠ 0 → ¬fits → takeEntry .orders i.val bs s = .refused .range) ∧
    (i ∉ s.pq.runList → o.requested ≠ 0 → fits →
      takeEntry .orders i.val bs s =
        .stored
          { s with
            pq.slots := s.pq.slots.set i { o with state := .loaded, fault := none, load := s.pq.slots[i].load + 1 } })

/-- A NODE MAP entry is refused LOCKED unless the line is STOPPED. One with valid 0 is always stored, its other fields as
sent (the model's choice, assumption 18); a valid one is refused RANGE when it names no other node or no role, or when
another valid entry binds its role or its pair, and is stored otherwise; no other index changes (R183, R184). -/
def Obligations.NodeEntryIsJudgedAgainstTheMap : Prop :=
  ∀ (i : Fin 64) (bs : List Byte) (s : State),
    let e := NodeEntry.ofBytes bs
    let clash := ∃ j : Fin 64, j ≠ i ∧ s.nm[j].valid = true ∧
      (s.nm[j].binds = e.binds ∨ (s.nm[j].node = e.node ∧ s.nm[j].channel = e.channel))
    (s.lc.line ≠ .stopped → takeEntry .nodeMap i.val bs s = .refused .locked) ∧
    (s.lc.line = .stopped → e.valid = false →
      takeEntry .nodeMap i.val bs s = .stored { s with nm := s.nm.set i e }) ∧
    (s.lc.line = .stopped → e.valid = true → e.node = 0 ∨ e.node = s.rp.address ∨ e.binds = none ∨ clash →
      takeEntry .nodeMap i.val bs s = .refused .range) ∧
    (s.lc.line = .stopped → e.valid = true → ¬(e.node = 0 ∨ e.node = s.rp.address ∨ e.binds = none ∨ clash) →
      takeEntry .nodeMap i.val bs s = .stored { s with nm := s.nm.set i e })

/-- A LINE entry is refused LOCKED unless the line is STOPPED. A legal one then replaces the whole record and sets the valid
mark, changes no line state, and leaves the tables, the zones, the encoders and the cells as they are; one with a field out of
the legal values of section 9.5, cross-conditions and the last zone end among them, is refused RANGE. The stored record is handed on: the admission check runs, SG recomputes, the splicer is judged, the
seam in flight is attached again and the search runs, and the cut conditions are judged against the new diameters (the order
by the model's choice, assumption 51) (R33, R119, R132, R155, R176, R177). The search runs in ARMED and WINDOW: ARMED with a
seam in flight it does nothing; a target that is forced or still safe stands, under a new splice distance too (assumption 52);
else a fresh search gives the target and the state; in WINDOW SC fires once the firing position is reached (R136,
R138). A seam attached again: in the piece that held it its record is written anew; placed elsewhere, or nowhere, the old
record and its flags are removed first, with a recompute (that first by the model's choice, assumption 58), in a piece that
holds a record already too (the model's choice, assumption 21), and a seam that had been reached is then laid or dropped (R143,
R144, R145, R147). -/
def Obligations.LineEntryReplacesTheRecord : Prop :=
  ∀ (bs : List Byte) (s : State),
    let r := (LineRecord.ofBytes bs).1
    let legal :=
      20 ≤ r.crawl ∧ r.crawl ≤ 200 ∧ r.crawl ≤ r.beltMax ∧ r.beltMax ≤ 1000 ∧ r.beltMax ≤ r.infeedMax ∧ r.infeedMax ≤ 1500 ∧
        r.setpoint ≤ 1000 ∧ r.spliceDistance ≤ 200000 ∧ r.reactionMargin ≤ 50000 ∧ r.seamMargin ≤ 5000 ∧
        r.spliceHorizon ≤ 400000 ∧ r.spliceDiameter ≤ 2000 ∧ r.forcedDiameter ≤ r.spliceDiameter ∧ r.fullDiameter ≤ 2000 ∧
        r.hardFull ≤ 2000 ∧ (r.fullDiameter ≠ 0 → r.hardFull ≠ 0 → r.fullDiameter ≤ r.hardFull) ∧ 1 ≤ r.knife ∧ r.knife ≤ 128 ∧
        (∀ z : Fin 8, s.zr.zones[z].stored.length ≠ 0 →
          s.zr.zones[z].stored.start + s.zr.zones[z].stored.length ≤ r.knife) ∧
        3000 ≤ r.fillerLength ∧ r.fillerLength ≤ 20000 ∧ (byteAt bs 29).toNat ≤ 15 ∧ 1 ≤ r.depth ∧ r.depth ≤ 4
    (s.lc.line ≠ .stopped → takeEntry .line 0 bs s = .refused .locked) ∧
    (s.lc.line = .stopped → legal →
      ∃ t, takeEntry .line 0 bs s = .stored t ∧ t.lc = { s.lc with record := r, valid := true } ∧ t.sg.belt = 0 ∧
        t.nm = s.nm ∧ t.zr = s.zr ∧ t.da = s.da ∧ t.pt = s.pt ∧ cellsStand s t ∧ t.px.mem = s.px.mem ∧ t.fs.state = s.fs.state ∧
        (let stored : State := { s with lc.record := r, lc.valid := true }
         let governed := recompute (admissionCheck stored)
         let hard : Bool := decide (r.hardFull ≠ 0) && s.tc.diameter.any fun d => decide (r.hardFull ≤ d)
         let full : Bool := (decide (r.fullDiameter ≠ 0) && s.tc.diameter.any fun d => decide (r.fullDiameter ≤ d)) ||
           decide (64 ≤ s.tc.current.ids.length)
         let low := ∃ v d, activeUnwind governed.sc = some v ∧ (unwindOf v governed.sc).diameter = some d ∧
           d ≤ r.spliceDiameter
         let follows (judged : State) : Prop :=
           t =
             { runSearch (attachSeam judged) with
               tc := { s.tc with
                 winder := if s.tc.winder = .winding ∧ (hard || full) = true then .cutPending else s.tc.winder
                 forced := s.tc.forced || (decide (s.tc.winder = .winding ∨ s.tc.winder = .cutPending) && hard) } }
         let early := governed.sc.state = .idle ∨ governed.sc.state = .ready
         let none1 := standbyUnwind governed.sc = none
         (r.continuous = false → admissionCheck stored = stored) ∧
           (governed.sc.state = .firing → follows governed) ∧
           (governed.sc.state ≠ .firing → none1 → follows { governed with sc.state := .idle, sc.target := none }) ∧
           (early → ¬none1 → ¬low → follows { governed with sc.state := .ready, sc.target := none }) ∧
           (early → ¬none1 → low →
             follows (runSearch (attachSeam { governed with sc.state := .armed, sc.target := none }))) ∧
           (governed.sc.state = .armed ∨ governed.sc.state = .window → ¬none1 → follows governed))) ∧
    (s.lc.line = .stopped → ¬legal →
      takeEntry .line 0 bs s = .refused .range) ∧
    (let fresh : State :=
       fireIfReached
         { s with
           sc.target := searchTarget s, sc.state := if (searchTarget s).isSome = true then .window else .armed }
     let stands (target : SpliceTarget) : Prop :=
       target.forced = true ∨ ∃ c ∈ coverage s, safeIn c s.lc.record.seamMargin target.seam = true
     (s.sc.state ≠ .armed → s.sc.state ≠ .window → runSearch s = s) ∧
       (s.sc.state = .armed → s.sc.seam.isSome = true → runSearch s = s) ∧
       (s.sc.state = .armed → s.sc.seam = none → runSearch s = fresh) ∧
       ∀ target, s.sc.state = .window → s.sc.target = some target →
         (stands target → runSearch s = fireIfReached s) ∧ (¬stands target → runSearch s = fresh)) ∧
    (s.sc.seam = none → attachSeam s = s) ∧
    ∀ f, s.sc.seam = some f →
      let detached : State :=
        match f.attached with
        | some id =>
          recompute
            { s with
              pq.pieces := s.pq.pieces.map fun q =>
                if q.id = id then { q with seam := none, flags.spliced := false, flags.spliceForced := false } else q }
        | none => s
      let t := attachSeam s
      let flight (attached : Option Nat) : Option SeamFlight :=
        if f.reached = true then none else some { f with attached := attached }
      (coverOf f.seam (coverage s) = none → t = { detached with sc.seam := flight none }) ∧
      ∀ c p, coverOf f.seam (coverage s) = some c → findPiece c.id s = some p →
        let from1 : State := if f.attached = some p.id then s else detached
        let forced := !safeIn c s.lc.record.seamMargin f.seam
        let offset := seamOffset p c f.seam
        let at0 := p.beltStart + BitVec.ofNat 32 offset
        (f.attached = some p.id ∨ p.seam = none →
          t.sc = { s.sc with seam := flight (some p.id) } ∧
            (t.pq.pieces =
              from1.pq.pieces.map fun q =>
                if q.id = p.id then
                  { q with
                    seam := some { position := f.seam, offset := offset }, flags.spliced := true
                    flags.spliceForced := forced }
                else q) ∧
            (forced = true → p.flags.spliceForced = false → flagHeld .spliceForced t = true) ∧
            (t.cl = s.cl.map fun k => if (at0 - k.formed).toNat < 1000 then { k with seam := true } else k) ∧
            t.fs.cursor = s.fs.cursor ∧ t.pt = s.pt ∧ t.zr = s.zr ∧ t.da = s.da ∧ t.tc = s.tc ∧ t.lc = s.lc) ∧
        (f.attached ≠ some p.id → p.seam.isSome = true →
          (t.sc = { s.sc with seam := none }) ∧
            (t.pq.pieces =
              detached.pq.pieces.map fun q => if q.id = p.id then { q with flags.spliceForced := true } else q) ∧
            flagHeld .spliceForced t = true ∧ t.cl = s.cl)

/-! ### Reading -/

/-- A READ changes nothing but the REPORT queue it answers into. It is answered with the stream of its selected records,
of at most 416 bytes, cut after the last record that fits, the closing part kept only if it fits after all of them, in
frames of 52 bytes numbered downward, DONE, or PARTIAL with reason LENGTH when cut; a range of a view that begins beyond
the tail gives its own first as first record, and the closing part of the CELL LIST (the model's choices, assumptions 48
and 34). A PATTERN entry reads as pattern memory holds it, its unused bits as stored (assumption 35). A table code, a
count or a range that does not fit is refused RANGE, in the LOOKASIDE and MANIFEST views too. STATUS answers pages 0, 1
and 2 with 29, 36 and 57 bytes of the state as it stands, refuses every other page RANGE, and changes nothing. The bytes of
each page, and of each record of the four views, are the fields the manual lists, in its order and sizes and with its codes; an
absent value reads as all ones, or as 0 where the manual marks it; two bytes that cannot hold an unlisted count or a lead, and
the load number of an absent last order, are free (assumptions 23, 54 and 36) (R3, R9, R86, R163, R194, R203, R204, R205). -/
def Obligations.ReadsReportWithoutChanging : Prop :=
  (∀ (rq : Request) (s : State), served rq s → rq.args.length = 5 →
    let code := field rq.args 0 1
    let first := field rq.args 1 2
    let count := field rq.args 3 2
    let at0 := setClock rq.time s
    let selects (records : List (List Byte)) (closing : List Byte) : Prop :=
      1 ≤ count ∧
        ((∃ t, Table.ofCode code = some t ∧ first + count ≤ t.records ∧ closing = [] ∧
            records = (List.range count).map fun k => tableRecord t (first + k) s) ∨
          (code = 7 ∧ closing = [] ∧ records = ((s.pq.pieces.drop first).take count).map Piece.bytes) ∨
          (code = 8 ∧ records = ((s.cl.drop first).take count).map BeltCell.bytes ∧
            closing =
              if s.cl.length ≤ first + count then beBytes 4 s.pt.nextBoundary.toNat ++ byte s.lc.record.knife else []) ∨
          (code = 9 ∧ first = 0 ∧ count = 1 ∧ records = [manifestRecord s.tc] ∧ closing = []) ∨
          (code = 10 ∧ first + count ≤ 32 ∧
            records = ((s.px.lookaside.toList.drop first).take count).map LookEntry.bytes ∧
            closing = if first + count = 32 then byte s.px.pointer.val else []))
    (∃ t, exec (.read rq) s = .next t ∧
      t = { setClock rq.time s with report := t.report, mu.flags := t.mu.flags }) ∧
    (code = 1 → count = 1 → first < 4096 →
      exec (.read rq) s =
        .next (respondDone 4 rq 0 (beBytes 2 first ++ beBytes 2 1 ++ beBytes 2 0 ++ readEntry s.px.mem first) at0)) ∧
    (∀ records closing, selects records closing →
      ∃ n, n ≤ records.length ∧ (records.take n).flatten.length ≤ 416 ∧
        (n < records.length → 416 < (records.take (n + 1)).flatten.length) ∧
        let whole := n = records.length ∧ records.flatten.length + closing.length ≤ 416
        let stream := (records.take n).flatten ++ if whole then closing else []
        let frames := max 1 ((stream.length + 51) / 52)
        exec (.read rq) s =
          .next
            ((List.range frames).foldl
              (fun t k =>
                respond 4 rq (if whole then .done else .partialClose) (if whole then .none else .length) (frames - 1 - k)
                  (beBytes 2 first ++ beBytes 2 n ++ beBytes 2 (52 * k) ++ (stream.drop (52 * k)).take 52) t)
              at0)) ∧
    (¬(1 ≤ code ∧ code ≤ 10) ∨ count = 0 → exec (.read rq) s = .next (refuse 4 rq .range at0)) ∧
    (∀ t : Table, Table.ofCode code = some t → t.records < first + count →
      exec (.read rq) s = .next (refuse 4 rq .range at0)) ∧
    (code = 9 → first ≠ 0 ∨ count ≠ 1 → exec (.read rq) s = .next (refuse 4 rq .range at0)) ∧
    (code = 10 → 32 < first + count → exec (.read rq) s = .next (refuse 4 rq .range at0))) ∧
  (∀ (rq : Request) (s : State), served rq s → rq.args.length = 1 →
    let at0 := setClock rq.time s
    (field rq.args 0 1 = 0 → exec (.status rq) s = .next (respondDone 5 rq 0 (statusLine at0) at0)) ∧
    (field rq.args 0 1 = 1 → exec (.status rq) s = .next (respondDone 5 rq 1 (statusMotion at0) at0)) ∧
    (field rq.args 0 1 = 2 → exec (.status rq) s = .next (respondDone 5 rq 2 (statusStations at0) at0)) ∧
    (2 < field rq.args 0 1 → exec (.status rq) s = .next (refuse 5 rq .range at0)) ∧
    (statusLine at0).length = 29 ∧ (statusMotion at0).length = 36 ∧ (statusStations at0).length = 57) ∧
  let bit (n : Nat) (b : Bool) : Nat := if b = true then 2 ^ n else 0
  (∀ s : State,
    let line := match s.lc.line with | .stopped => 0 | .running => 1 | .hold => 2 | .stopping => 3 | .fault => 4
    let cause := match s.lc.cause with
      | none => 0
      | some .encoderJump => 1 | some .encoderStale => 2 | some .unwindEmpty => 3 | some .spliceTimeout => 4
      | some .cutTimeout => 5
    let fs := match s.fs.state with | .idle => 0 | .forming => 1 | .starved => 2 | .held => 3
    let table (t : Table) : Nat := match t with
      | .pattern => 1 | .nodeMap => 2 | .classes => 3 | .zones => 4 | .line => 5 | .orders => 6
    let write : List Byte := match s.mu.openWrite with
      | none => [0, 0xFF, 0xFF, 0xFF, 0xFF, 0xFF]
      | some w => [1, w.source] ++ byte (table w.table) ++ beBytes 2 w.pointer ++ byte (w.requested - w.stored)
    statusLine s =
      byte line ++ byte cause ++ byte s.lc.further.toNat ++ byte (bit 0 s.lc.clearPending) ++ byte (bit 0 s.lc.valid) ++
        byte s.rp.address.toNat ++ beBytes 3 s.mu.flags.toNat ++ beBytes 3 s.lc.record.enables.toNat ++ byte fs ++
        beBytes 2 (s.fs.cursor.piece.getD 0) ++ byte s.pq.pieces.length ++
        byte (s.pq.pieces.filter fun p => decide (p.state = .admitted)).length ++ byte s.pq.runList.length ++
        byte ((s.pq.runList.head?.map Fin.val).getD 0xFF) ++ beBytes 2 s.pq.nextId ++ write ++ byte s.report.length ++
        byte s.rp.forward.length) ∧
  (∀ s : State,
    let encoder (e : EncoderRecord) : List Byte :=
      byte (match e.state with | .unseen => 0 | .tracking => 1 | .stale => 2 | .fault => 3) ++ beBytes 4 e.held.toNat ++
        beBytes 3 e.speed
    statusMotion s =
      encoder s.pt.infeed ++ encoder s.pt.belt ++ beBytes 4 s.pt.nextBoundary.toNat ++ beBytes 4 s.fs.formed.toNat ++
        beBytes 2 s.sg.belt ++ beBytes 2 s.fs.lastInfeed ++ beBytes 2 s.sg.vHeat ++ beBytes 2 s.sg.vInf ++
        beBytes 2 (s.sg.governing.getD 0) ++ byte s.cl.length ++ byte s.lc.record.knife) ∧
  (∀ s : State,
    let zone (z : Zone) : List Byte :=
      byte ((match z.state with
          | .shut => 0 | .heating => 1 | .ready => 2 | .waking => 3 | .standbySettling => 4 | .standby => 5) +
        bit 7 z.stale) ++ byte z.inBand ++ beBytes 2 (z.temp.getD 0xFFFF)
    let splicer := match s.sc.state with | .idle => 0 | .ready => 1 | .armed => 2 | .window => 3 | .firing => 4
    let splicerLast := match s.sc.lastStatus with | none => 0xFF | some .ready => 0 | some .busy => 1 | some .done => 2
    let unwind (u : UnwindRecord) : List Byte :=
      byte (match u.state with | .empty => 0 | .loaded => 1 | .active => 2 | .expired => 3) ++
        beBytes 2 (u.diameter.getD 0xFFFF) ++
        byte (match u.lastStatus with | none => 0xFF | some .empty => 0 | some .loaded => 1)
    let winder := match s.tc.winder with | .winding => 0 | .cutPending => 1 | .cutting => 2 | .indexing => 3
    let takeUpLast := match s.tc.lastStatus with
      | none => 0xFF | some .ready => 0 | some .busy => 1 | some .cutDone => 2 | some .indexed => 3
    statusStations s =
      (List.ofFn fun z : Fin 8 => zone s.zr.zones[z]).flatten ++ byte splicer ++ byte splicerLast ++
        byte (bit 0 s.sc.target.isSome + bit 1 (s.sc.target.any SpliceTarget.forced) + bit 2 s.sc.seam.isSome +
          bit 3 (s.sc.seam.any SeamFlight.reached)) ++
        beBytes 4 ((s.sc.target.map SpliceTarget.seam).getD 0).toNat ++
        beBytes 4 ((s.sc.seam.map SeamFlight.seam).getD 0).toNat ++ unwind s.sc.unwindA ++ unwind s.sc.unwindB ++
        byte winder ++ beBytes 2 (s.tc.diameter.getD 0xFFFF) ++ byte takeUpLast ++ beBytes 2 s.tc.current.roll) ∧
  (∀ c : BeltCell,
    c.bytes =
      byte c.index ++ beBytes 4 c.formed.toNat ++ beBytes 2 (c.piece.getD 0) ++ beBytes 3 c.dose ++ beBytes 2 c.residue ++
        byte (bit 0 c.seam + bit 1 c.uncertain)) ∧
  (∀ e : LookEntry, e.bytes = byte (bit 7 e.valid + e.slot.val) ++ beBytes 2 e.tag ++ e.copy) ∧
  (∀ tc : TakeUpController,
    let manifest (m : Manifest) (unlisted : List Byte) : List Byte :=
      beBytes 2 m.roll ++ byte m.ids.length ++ unlisted ++ (m.ids.map fun id => beBytes 2 id).flatten
    let counts (m : Manifest) (unlisted : List Byte) : Prop :=
      unlisted.length = 2 ∧ (m.unlisted < 65536 → unlisted = beBytes 2 m.unlisted)
    let winder := match tc.winder with | .winding => 0 | .cutPending => 1 | .cutting => 2 | .indexing => 3
    ∃ current last closing, counts tc.current current ∧ last.length = 2 ∧
      manifestRecord tc =
        manifest tc.current current ++ closing ++ byte winder ++ beBytes 2 tc.current.roll ++
          beBytes 2 (tc.currentPiece.getD 0) ++ last ∧
      (tc.closing = none → closing = [0]) ∧
      (∀ m, tc.closing = some m → ∃ unlisted, counts m unlisted ∧ closing = [1] ++ manifest m unlisted) ∧
      (∀ slot load, tc.lastOrder = some (slot, load) → last = byte slot.val ++ [load]) ∧
      (tc.lastOrder = none → byteAt last 0 = 0xFF)) ∧
  ∀ p : Piece,
    let state := match p.state with | .admitted => 0 | .forming => 1 | .formed => 2
    let verdict := match p.verdict with | .good => 0 | .uncertain => 1 | .under => 2 | .over => 3 | .filler => 4
    let run (r : Run) (lead : List Byte) : List Byte :=
      beBytes 2 r.count ++ beBytes 2 r.spacing ++ beBytes 2 r.depthStart ++ beBytes 2 r.depthEnd ++ beBytes 2 r.taper ++
        byte ((match r.kind with | .knife => 1 | .box => 2 | .accordion => 3) +
          (match r.dir with | .left => 0 | .right => 4)) ++ lead ++ byte (bit 0 r.flat)
    ∃ lead : Run → List Byte, (∀ r, (lead r).length = 2 ∧ (r.lead < 65536 → lead r = beBytes 2 r.lead)) ∧
      p.bytes =
        beBytes 2 p.id ++ byte ((p.slot.map Fin.val).getD 0xFF) ++ byte p.load.toNat ++ byte p.gradeIndex ++
          byte p.cursor ++ beBytes 2 p.done ++ byte state ++
          byte (bit 0 p.flags.filler + bit 1 p.flags.short + bit 2 p.flags.adjusted + bit 3 p.flags.spliced +
            bit 4 p.flags.spliceForced + bit 5 p.flags.cutForced + bit 6 p.flags.split + bit 7 p.flags.foldLost) ++
          byte (bit 0 p.span.isSome + bit 1 p.seam.isSome + bit 2 p.doses.isSome) ++ beBytes 4 p.beltStart.toNat ++
          beBytes 4 p.beltEnd.toNat ++ beBytes 4 ((p.span.map Prod.fst).getD 0).toNat ++
          beBytes 4 ((p.span.map Prod.snd).getD 0).toNat ++ beBytes 4 ((p.seam.map SeamRecord.position).getD 0).toNat ++
          beBytes 3 ((p.seam.map SeamRecord.offset).getD 0) ++ beBytes 3 ((p.doses.map Prod.fst).getD 0) ++
          beBytes 3 ((p.doses.map Prod.snd).getD 0) ++ byte verdict ++
          byte (bit 7 p.plan.mirror + p.plan.runs.length) ++ byte p.plan.cls.val ++ beBytes 2 p.plan.tail ++
          beBytes 3 p.plan.infeed ++ beBytes 3 p.plan.belt ++ (p.plan.runs.map fun r => run r (lead r)).flatten

/-! ### The line -/

/-- START is checked in order, and the first check that fails refuses it with its detail and changes nothing. The roles it
requires are the infeed and belt encoders, the blade, the infeed and belt drives, and for each enabled zone in turn its upper
probe, lower probe, upper valve and lower valve; the first that is not bound is named by its role code and by the zone and half
byte of a node map entry (R168, R194, R196). -/
def Obligations.StartIsCheckedInOrder : Prop :=
  (∀ s : State,
    requiredRoles s =
      [.encoder .infeed, .encoder .belt, .act .blade, .act .infeedDrive, .act .beltDrive] ++
        (List.finRange 8).flatMap fun z =>
          if s.zr.zones[z].stored.length = 0 then []
          else [.probe z .upper, .probe z .lower, .act (.valve z .upper), .act (.valve z .lower)]) ∧
  ∀ (rq : Request) (s : State), served rq s → rq.args = [] →
    let place (z : Fin 8) (h : Half) : Nat := z.val + 1 + match h with | .upper => 0 | .lower => 16
    let codes (r : Role) : Nat × Nat :=
      match r with
      | .encoder .infeed => (1, 0) | .encoder .belt => (2, 0) | .probe z h => (3, place z h)
      | .unwindStatus .a => (4, 0) | .unwindDiameter .a => (5, 0) | .unwindStatus .b => (6, 0)
      | .unwindDiameter .b => (7, 0) | .splicerStatus => (8, 0) | .takeUpDiameter => (9, 0) | .takeUpStatus => (10, 0)
      | .act .blade => (16, 0) | .act .infeedDrive => (17, 0) | .act .beltDrive => (18, 0)
      | .act (.valve z h) => (19, place z h) | .act .splicer => (20, 0) | .act .knife => (21, 0) | .act .turret => (22, 0)
    let refused (detail item extra : Nat) : State :=
      respond 6 rq .refused .state 0 (byte detail ++ byte item ++ byte extra) (setClock rq.time s)
    let bound := ∀ r ∈ requiredRoles s, (bindingOf r s).isSome = true
    (s.lc.line ≠ .stopped → exec (.start rq) s = .next (refused 1 s.lc.line.code 0)) ∧
    (s.lc.line = .stopped → s.lc.valid = false → exec (.start rq) s = .next (refused 2 0 0)) ∧
    (∀ before r after, s.lc.line = .stopped → s.lc.valid = true → requiredRoles s = before ++ r :: after →
      (∀ q ∈ before, (bindingOf q s).isSome = true) → bindingOf r s = none →
      exec (.start rq) s = .next (refused 3 (codes r).1 (codes r).2)) ∧
    (s.lc.line = .stopped → s.lc.valid = true → bound → s.pt.infeed.state ≠ .tracking →
      exec (.start rq) s = .next (refused 4 0 0)) ∧
    (s.lc.line = .stopped → s.lc.valid = true → bound → s.pt.infeed.state = .tracking → s.pt.belt.state ≠ .tracking →
      exec (.start rq) s = .next (refused 4 1 0)) ∧
    (∀ z : Fin 8, s.lc.line = .stopped → s.lc.valid = true → bound → s.pt.infeed.state = .tracking →
      s.pt.belt.state = .tracking →
      (s.zr.zones[z].stored.length ≠ 0 ∧ (s.zr.zones[z].state ≠ .ready ∨ s.zr.zones[z].stale = true)) →
      (∀ y : Fin 8, y < z → s.zr.zones[y].stored.length = 0 ∨ (s.zr.zones[y].state = .ready ∧ s.zr.zones[y].stale = false)) →
      exec (.start rq) s = .next (refused 5 (z.val + 1) (s.zr.zones[z].state.code + if s.zr.zones[z].stale then 128 else 0)))

/-- START from any state that passes its checks (the line STOPPED, its record valid, every required role bound, both
encoders TRACKING, every enabled zone READY and not STALE) is answered DONE after every effect, with the belt command and
the piece in hand. The line is RUNNING, both stale checks start at that moment, and FS forms: it continues the piece in
hand, or from IDLE and STARVED starts a piece at the infeed position PT holds. With none ADMITTED and the queue full it
starves instead, QUEUE_FULL is raised and the line is STOPPING at once (R64, R76, R168, R169). A piece needed at a position
is the oldest ADMITTED one, or a new filler piece, set FORMING with its infeed span from there, the cursor on its first
item under that item's ratio, and in CONTINUOUS mode pieces admitted behind it; the filler's plan is one lead of the filler
length, which no run brings below 3000 (WinderLineAndSequencerStayConsistent); with neither, FS starves, QUEUE_FULL is raised, and a
RUNNING or HOLD line is STOPPING (R41, R45, R46, R53, R55, R61, R63, R172). -/
def Obligations.StartRunsTheLine : Prop :=
  (∀ (rq : Request) (s : State), served rq s → rq.args = [] → s.lc.line = .stopped → s.lc.valid = true →
    (∀ r ∈ requiredRoles s, (bindingOf r s).isSome = true) →
    s.pt.infeed.state = .tracking → s.pt.belt.state = .tracking →
    (∀ z : Fin 8, s.zr.zones[z].stored.length ≠ 0 → s.zr.zones[z].state = .ready ∧ s.zr.zones[z].stale = false) →
    let draws := s.fs.state = .forming ∨ s.fs.state = .held
    let full := (∀ p ∈ s.pq.pieces, p.state ≠ .admitted) ∧ 48 ≤ s.pq.pieces.length
    ∃ u, exec (.start rq) s = .next (respondDone 6 rq 0 (beBytes 2 u.sg.belt ++ beBytes 2 (u.fs.cursor.piece.getD 0)) u) ∧
      u.clock = rq.time ∧ u.pt.infeed = { s.pt.infeed with watchStart := rq.time } ∧
      u.pt.belt = { s.pt.belt with watchStart := rq.time } ∧ u.fs.formed = s.fs.formed ∧
      (draws →
        u.lc = { s.lc with line := .running } ∧ u.fs.state = .forming ∧ u.fs.cursor = s.fs.cursor ∧ u.pq = s.pq ∧
          u.sc = s.sc) ∧
      (¬draws →
        ∃ v, u = needPiece s.pt.infeed.held v ∧ v.lc = { s.lc with line := .running } ∧ v.fs.state = s.fs.state ∧
          v.fs.cursor = s.fs.cursor ∧ v.fs.formed = s.fs.formed ∧ v.pq = s.pq ∧ v.sc = s.sc ∧ v.px = s.px ∧ v.cl = s.cl) ∧
      (¬draws → ¬full →
        u.lc = { s.lc with line := .running } ∧ u.fs.state = .forming ∧ u.fs.cursor.piece.isSome = true ∧
          u.fs.cursor.itemStart = s.pt.infeed.held) ∧
      (¬draws → full →
        u.lc = { s.lc with line := .stopping, restCount := 0 } ∧ u.sg.belt = 0 ∧ u.fs.state = .starved ∧
          u.fs.cursor.piece = none ∧ u.fs.cursor.ratio = .flat ∧ flagHeld .queueFull u = true ∧ u.pq = s.pq) ∧
      cellsStand s u ∧ u.zr = s.zr ∧ u.da = s.da ∧ u.tc = s.tc ∧ u.nm = s.nm ∧ u.px.mem = s.px.mem) ∧
  ∀ (start : Position) (s : State),
    let t := needPiece start s
    let core (p : Piece) : Piece := { p with seam := none, flags.spliced := false, flags.spliceForced := false }
    let starts (p : Piece) (queued : List Piece) : Prop :=
      t.fs.state = (if s.lc.line = .hold then .held else .forming) ∧ t.fs.formed = s.fs.formed ∧
        (∃ more, (∀ q ∈ more, q.state = .admitted) ∧ (s.lc.record.continuous = false → more = []) ∧
          t.pq.pieces.map core =
            (queued.map fun q =>
                core
                  (if q.id = p.id then
                    { q with state := .forming, span := some (start, start + BitVec.ofNat 32 q.plan.infeed) }
                  else q)) ++ more.map core) ∧
        (∀ it rest, planItems p.plan = it :: rest →
          t.fs.cursor =
            { piece := some p.id, item := it.kind, run := it.run, pleat := it.pleat, itemStart := start
              itemFormed := s.fs.formed, boundary := start + BitVec.ofNat 32 it.length
              ratio := if it.kind = .land then .pleat (it.spacing + it.left + it.right) it.spacing else .flat }) ∧
        t.pt = s.pt ∧ t.zr = s.zr ∧ t.da = s.da ∧ t.tc = s.tc ∧ t.lc = s.lc ∧ t.nm = s.nm ∧ cellsStand s t
    (∀ before p after, s.pq.pieces = before ++ p :: after → p.state = .admitted → (∀ q ∈ before, q.state ≠ .admitted) →
      starts p s.pq.pieces) ∧
    ((∀ q ∈ s.pq.pieces, q.state ≠ .admitted) → s.pq.pieces.length < 48 →
      ∃ p, p.id = newId s ∧ p.slot = none ∧ p.flags = { filler := true } ∧ p.verdict = .filler ∧ p.doses = none ∧
        (fillerInRange s → planItems p.plan = [flatItem .lead 0 0 s.lc.record.fillerLength]) ∧ p.plan.cls = s.lc.record.fillerClass ∧
        p.beltStart = ((s.pq.pieces.getLast?.map Piece.beltEnd).getD s.fs.formed) ∧
        p.beltEnd = p.beltStart + BitVec.ofNat 32 s.lc.record.fillerLength ∧
        (s.lc.record.continuous = false → t.pq.nextId = if 65535 ≤ p.id then 1 else p.id + 1) ∧
        starts p (s.pq.pieces ++ [p])) ∧
    ((∀ q ∈ s.pq.pieces, q.state ≠ .admitted) → 48 ≤ s.pq.pieces.length →
      flagHeld .queueFull t = true ∧ t.fs.state = .starved ∧ t.fs.cursor.piece = none ∧ t.fs.cursor.ratio = .flat ∧
        t.fs.formed = s.fs.formed ∧ t.pq = s.pq ∧
        (s.lc.line = .running ∨ s.lc.line = .hold →
          t.lc = { s.lc with line := .stopping, restCount := 0 } ∧ t.sg.belt = 0) ∧
        (s.lc.line ≠ .running → s.lc.line ≠ .hold → t.lc = s.lc))

/-- STOP takes a RUNNING or HOLD line to STOPPING with the rest count 0 and the belt command 0, leaves a
STOPPING or STOPPED line as it is, and is refused in FAULT. On the way out of HOLD the admission check runs, after FS took
the change (assumption 9); out of RUNNING it does not (R32, R33, R64, R125, R167, R170). -/
def Obligations.StopBringsTheLineToRest : Prop :=
  ∀ (rq : Request) (s : State), served rq s → rq.args = [] →
    (s.lc.line = .running ∨ s.lc.line = .hold →
      ∃ u, exec (.stop rq) s = .next (respondDone 7 rq 0 [] u) ∧
        u.lc = { s.lc with line := .stopping, restCount := 0 } ∧ u.sg.belt = 0 ∧ u.fs.cursor = s.fs.cursor ∧
        u.fs.formed = s.fs.formed ∧ (s.fs.state = .held → u.fs.state = .forming) ∧
        (s.fs.state ≠ .held → u.fs.state = s.fs.state) ∧
        (s.lc.line = .running → u.pq = s.pq ∧ u.sc = s.sc) ∧
        (s.lc.line = .hold →
          ∃ v, u = admissionCheck v ∧ v.lc = { s.lc with line := .stopping, restCount := 0 } ∧ v.clock = rq.time ∧
            v.fs.state = u.fs.state ∧ v.fs.cursor = s.fs.cursor ∧ v.fs.formed = s.fs.formed ∧ v.pq = s.pq ∧ v.sc = s.sc ∧
            v.px = s.px ∧ v.cl = s.cl) ∧
        cellsStand s u ∧ u.pt = s.pt ∧ u.zr = s.zr ∧ u.da = s.da ∧ u.tc = s.tc ∧ u.nm = s.nm ∧ u.px.mem = s.px.mem) ∧
    (s.lc.line = .stopping ∨ s.lc.line = .stopped →
      exec (.stop rq) s = .next (respondDone 7 rq 0 [] (setClock rq.time s))) ∧
    (s.lc.line = .fault → exec (.stop rq) s = .next (refuse 7 rq .state (setClock rq.time s)))

/-- RESTART is taken only in RUNNING and STOPPED. It ends the piece in hand SHORT, removes the ADMITTED pieces, then holds a
RUNNING line with pause-on-restart set and otherwise runs the admission check and the search; a run-out of no length then
has FS need a piece (the order of these parts, HOLD before the piece needed among them, by the model's choice, assumptions
25 and 53). The answer carries the pieces removed and the piece ended (R65, R68, R69). A piece ended SHORT: the
formed counter counts the land drawn, the belt end is the later of it and the end of the newest cell of the piece or of an
ADMITTED one, and the cursor is on the run-out, after what is left of a fold, under the flat ratio; its run and pleat are 0
(the model's choice, assumption 17) (R61, R66). The removal, which SC and SG are
handed even when it takes nothing (the model's choice, assumption 62): a slot whose earliest removed piece has its load number is set
back to that piece's cursor and skirts done; DONE slots so set back return to the front of the run list in the order of
those pieces, the first ACTIVE, the others LOADED, a former ACTIVE head LOADED; cells that name a removed piece name the
SHORT one, or none with TRACK_GAP (R47, R48, R67, R85). -/
def Obligations.RestartEndsShortAndHolds : Prop :=
  (∀ (rq : Request) (s : State), served rq s → rq.args = [] →
    (s.lc.line = .hold ∨ s.lc.line = .stopping ∨ s.lc.line = .fault →
      exec (.restart rq) s = .next (refuse 8 rq .state (setClock rq.time s))) ∧
    (s.lc.line = .stopped ∨ s.lc.line = .running →
      ∃ u, exec (.restart rq) s =
          .next
            (respondDone 8 rq (s.pq.pieces.filter fun p => decide (p.state = .admitted)).length
              (beBytes 2 (((pieceInHand s).map Piece.id).getD 0)) u) ∧
        u.lc.record = s.lc.record ∧ u.pt = s.pt ∧ u.zr = s.zr ∧ u.da = s.da ∧ u.tc = s.tc ∧ u.nm = s.nm ∧
        u.px.mem = s.px.mem) ∧
    (∀ p, s.lc.line = .running → s.lc.record.pauseOnRestart = true → pieceInHand s = some p →
      (∀ q ∈ s.pq.pieces, q.id = p.id → q = p) → p.state ≠ .admitted →
      ∃ t, exec (.restart rq) s = .next t ∧ (s.pq.pieces.length < 48 → t.lc.line = .hold) ∧
        (∃ q ∈ t.pq.pieces, q.id = p.id ∧ q.state = .formed ∧ q.flags.short = true ∧ q.plan = p.plan ∧
          q.beltStart = p.beltStart) ∧
        ∀ q ∈ t.pq.pieces, q.state ≠ .admitted) ∧
    (s.lc.line = .stopped ∨ s.lc.line = .running →
      let x := s.pt.infeed.held
      let ended : State :=
        match pieceInHand s with
        | some p => endShort p x (setClock rq.time s)
        | none => setClock rq.time s
      let removed := removeAdmitted ((pieceInHand s).map Piece.id) ended
      let resumed : State :=
        if s.lc.record.pauseOnRestart = true ∧ s.lc.line = .running then changeLine .hold removed
        else replanSplice (admissionCheck removed)
      exec (.restart rq) s =
        .next
          (respondDone 8 rq (s.pq.pieces.filter fun p => decide (p.state = .admitted)).length
            (beBytes 2 (((pieceInHand s).map Piece.id).getD 0))
            (if (pieceInHand s).isSome = true ∧ ended.fs.cursor.boundary = x then
              needPiece x
                { resumed with fs.formed := ended.fs.cursor.itemFormed + (x - ended.fs.cursor.itemStart) }
            else resumed)))) ∧
  (∀ (p : Piece) (x : Position) (s : State),
    let t := endShort p x s
    let formed := if s.fs.cursor.item = .land then s.fs.formed + (x - s.fs.cursor.itemStart) else s.fs.formed
    let rest := if s.fs.cursor.item = .fold then (s.fs.cursor.boundary - x).toNat else 0
    let own (c : BeltCell) : Prop := 0 ≤ (c.formed - p.beltStart).toInt ∧
      (c.piece = some p.id ∨ ∃ q ∈ s.pq.pieces, q.state = .admitted ∧ c.piece = some q.id)
    let core (q : Piece) : Piece := { q with flags.spliceForced := false }
    let endsAt (stop : Position) : Prop :=
      let runOut := (stop - formed).toNat
      let infeedEnd := x + BitVec.ofNat 32 (rest + runOut)
      t.fs.formed = formed ∧ t.fs.state = s.fs.state ∧
        t.fs.cursor =
          { piece := none, item := .runOut, run := 0, pleat := 0, itemStart := x + BitVec.ofNat 32 rest
            itemFormed := formed, boundary := infeedEnd, ratio := .flat } ∧
        (t.pq.pieces.map core =
          s.pq.pieces.map fun q =>
            core
              (if q.id = p.id then
                { q with
                  beltEnd := stop, span := q.span.map fun a => (a.1, infeedEnd), state := .formed
                  flags.short := true, cut := some (x, rest) }
              else q))
    ((∀ c ∈ s.cl, ¬own c) → endsAt formed) ∧
      (∀ before c after, s.cl = before ++ c :: after → (∀ d ∈ before, ¬own d) → own c →
        endsAt (if 0 ≤ (c.formed + 1000 - formed).toInt then c.formed + 1000 else formed)) ∧
      t.pq.slots = s.pq.slots ∧ t.pq.runList = s.pq.runList ∧ t.cl = s.cl ∧ t.sc = s.sc ∧ t.pt = s.pt ∧ t.zr = s.zr ∧
      t.da = s.da ∧ t.tc = s.tc ∧ t.lc = s.lc ∧ t.px = s.px ∧ t.nm = s.nm) ∧
  ∀ (short : Option Nat) (s : State),
    let t := removeAdmitted short s
    let gone := s.pq.pieces.filter fun p => decide (p.state = .admitted)
    let place (i : Fin 8) : Nat := gone.findIdx fun p => decide (p.slot = some i)
    let back (i : Fin 8) : Option Piece :=
      (gone.find? fun p => decide (p.slot = some i)).filter fun p =>
        decide (p.load = s.pq.slots[i].load ∧ s.pq.slots[i].state ≠ .empty)
    let named (c : BeltCell) : Bool := gone.any fun p => decide (c.piece = some p.id)
    let core (p : Piece) : Piece := { p with seam := none, flags.spliced := false, flags.spliceForced := false }
    t.pq.pieces.map core = (s.pq.pieces.filter fun p => decide (p.state ≠ .admitted)).map core ∧
      (∃ returned : List (Fin 8),
        (∀ i, i ∈ returned ↔ (back i).isSome = true ∧ s.pq.slots[i].state = .done) ∧
        returned.Pairwise (fun i j => place i < place j) ∧ t.pq.runList = returned ++ s.pq.runList ∧
        ∀ i : Fin 8,
          t.pq.slots[i] =
            { s.pq.slots[i] with
              cursor := ((back i).map Piece.cursor).getD s.pq.slots[i].cursor
              done := ((back i).map Piece.done).getD s.pq.slots[i].done
              state :=
                if returned.head? = some i then .active
                else if i ∈ returned then .loaded
                else if returned ≠ [] ∧ s.pq.runList.head? = some i ∧ s.pq.slots[i].state = .active then .loaded
                else s.pq.slots[i].state }) ∧
      (t.cl.map (fun c => { c with seam := false }) =
        s.cl.map fun c => { c with seam := false, piece := if named c = true then short else c.piece }) ∧
      (short = none → s.cl.any named = true → flagHeld .trackGap t = true) ∧
      t.pq.nextId = s.pq.nextId ∧ t.fs.cursor = s.fs.cursor ∧ t.fs.formed = s.fs.formed ∧ t.fs.state = s.fs.state ∧
      t.pt = s.pt ∧ t.zr = s.zr ∧ t.da = s.da ∧ t.tc = s.tc ∧ t.lc = s.lc ∧ t.px = s.px ∧ t.nm = s.nm

/-- RELEASE returns a HOLD line to RUNNING and a HELD sequencer to FORMING, and the admission check runs on the change; an
IDLE or STARVED sequencer then needs a piece at the infeed position PT holds (the order by the model's choice,
assumption 9; one found so in HOLD by assumption 32). In every other line state it is refused STATE and changes nothing (R32, R33, R55, R64, R70, R167). -/
def Obligations.ReleaseRunsAHeldLine : Prop :=
  ∀ (rq : Request) (s : State), served rq s → rq.args = [] →
    (s.lc.line = .hold → s.fs.state = .held →
      ∃ u, exec (.release rq) s = .next (respondDone 9 rq 0 [] u) ∧ u.lc = { s.lc with line := .running } ∧
        u.fs.state = .forming ∧ u.fs.cursor = s.fs.cursor ∧ u.fs.formed = s.fs.formed ∧ u.pt = s.pt ∧ u.zr = s.zr ∧
        cellsStand s u ∧ u.da = s.da ∧ u.tc = s.tc ∧ u.nm = s.nm ∧ u.px.mem = s.px.mem ∧
        (s.lc.record.continuous = false → u.pq = s.pq ∧ u.sc = s.sc)) ∧
    (s.lc.line = .hold → s.fs.state ≠ .held → ∃ u, exec (.release rq) s = .next (respondDone 9 rq 0 [] u)) ∧
    (s.lc.line = .hold →
      ∃ v, v.lc = { s.lc with line := .running } ∧ v.clock = rq.time ∧
        v.fs.state = (if s.fs.state = .held then .forming else s.fs.state) ∧ v.fs.cursor = s.fs.cursor ∧
        v.fs.formed = s.fs.formed ∧ v.pq = s.pq ∧ v.sc = s.sc ∧ v.px = s.px ∧ v.cl = s.cl ∧ v.pt = s.pt ∧ v.zr = s.zr ∧
        (s.fs.state = .forming ∨ s.fs.state = .held →
          exec (.release rq) s = .next (respondDone 9 rq 0 [] (admissionCheck v))) ∧
        (s.fs.state = .idle ∨ s.fs.state = .starved →
          exec (.release rq) s = .next (respondDone 9 rq 0 [] (needPiece s.pt.infeed.held (admissionCheck v))))) ∧
    (s.lc.line ≠ .hold → exec (.release rq) s = .next (refuse 9 rq .state (setClock rq.time s)))

/-- CLEAR naming the line is refused outside FAULT. In FAULT it is answered DONE at once: with the belt encoder UNSEEN
the line is STOPPED and the fault gone, otherwise the CLEAR waits for the belt to come to rest. On its entry to
STOPPED every enabled zone is put to standby with standby-on-stop set, and the zones stand with it clear; after that the
admission check runs, when the CLEAR waited as when it did not (the order by the model's choice, assumption 9, and the locks
judged once after every zone, assumption 15) (R32, R33,
R77, R98, R167, R174). -/
def Obligations.ClearLeavesFaultAtRest : Prop :=
  (∀ s : State, s.lc.line = .fault → leavesFault s (leaveFault s)) ∧
  ∀ (rq : Request) (s : State), served rq s → rq.args = [0xFF] →
    (s.lc.line ≠ .fault → exec (.clearLine rq) s = .next (refuse 13 rq .state (setClock rq.time s))) ∧
    (s.lc.line = .fault → s.pt.belt.state ≠ .unseen →
      exec (.clearLine rq) s =
        .next (respondDone 13 rq 0 [1] { setClock rq.time s with lc.clearPending := true })) ∧
    (s.lc.line = .fault → s.pt.belt.state = .unseen →
      ∃ u, exec (.clearLine rq) s = .next (respondDone 13 rq 0 [0] u) ∧ leavesFault s u ∧
        u.lc = { s.lc with line := .stopped, cause := none, further := 0, clearPending := false } ∧ u.sg.belt = 0 ∧
        u.pt.infeed.held = s.pt.infeed.held ∧
        (s.pt.infeed.state = .fault →
          u.pt.infeed.state = .tracking ∧ u.pt.infeed.raw + u.pt.infeed.offset = s.pt.infeed.held) ∧
        (s.pt.infeed.state ≠ .fault → u.pt.infeed = s.pt.infeed) ∧ standbyTaken s u ∧ cellsStand s u ∧ u.tc = s.tc ∧
        u.nm = s.nm ∧ u.px.mem = s.px.mem ∧ u.da = s.da)

/-- SPEED stores a setpoint up to 1000 in every line state, has the governor recompute, and answers with the belt
command; the command never exceeds the new setpoint. A higher value is refused RANGE (R125, R128). -/
def Obligations.SpeedStoresTheSetpoint : Prop :=
  ∀ (rq : Request) (s : State), served rq s → rq.args.length = 2 →
    (field rq.args 0 2 ≤ 1000 →
      ∃ u, exec (.speed rq) s = .next (respondDone 17 rq 0 (beBytes 2 u.sg.belt) u) ∧
        u.lc = { s.lc with record := { s.lc.record with setpoint := field rq.args 0 2 } } ∧
        u.sg.belt ≤ field rq.args 0 2 ∧
        (s.lc.line = .stopping ∨ s.lc.line = .stopped ∨ s.lc.line = .fault → u.sg.belt = 0) ∧
        u.pq = s.pq ∧ u.fs.cursor = s.fs.cursor ∧ u.fs.state = s.fs.state ∧ u.fs.formed = s.fs.formed ∧ u.pt = s.pt ∧
        u.cl = s.cl ∧ u.zr = s.zr ∧ u.da = s.da ∧ u.sc = s.sc ∧ u.tc = s.tc ∧ u.nm = s.nm ∧ u.px = s.px) ∧
    (1000 < field rq.args 0 2 → exec (.speed rq) s = .next (refuse 17 rq .range (setClock rq.time s)))

/-- ACKNOWLEDGE sets each flag whose mask bit is 1 to its value bit and leaves the others, queues no notice, and
answers with the flags that changed and all flags as they stand; nothing else changes (R207). -/
def Obligations.AcknowledgeSetsTheMaskedFlags : Prop :=
  ∀ (rq : Request) (s : State), served rq s → rq.args.length = 6 →
    ∃ flags : BitVec 18,
      (∀ n, n < 18 →
        flags.getLsbD n =
          if (field rq.args 3 3).testBit n then (field rq.args 0 3).testBit n else s.mu.flags.getLsbD n) ∧
      exec (.acknowledge rq) s =
        .next
          (respondDone 18 rq ((List.range 18).filter fun n => flags.getLsbD n != s.mu.flags.getLsbD n).length
            (beBytes 3 flags.toNat) { setClock rq.time s with mu.flags := flags })

/-- LINE RESET is refused in FAULT, and an open write, its own source's too, then stays open (the model's choice,
assumption 38). In every other line state it stops the line, sets every block back by its own rule,
closes an open write, clears every flag and answers DONE last; the loaded tables, the encoders, the zones, the counters
and the frames in transit are kept. The frames in the REPORT queue stay there, and the closing response of an open write,
PARTIAL with reason STATE, is placed behind them before the DONE response, raising REPORT_DROPPED in a full queue before the
flags are cleared (the model's choice, assumption 24); the take-up and the ACT queue go by R152 and R189
(R4, R25, R49, R54, R86, R118, R149, R165, R178, R191, R198, R208). -/
def Obligations.LineResetSetsBackAndKeeps : Prop :=
  ∀ (rq : Request) (s : State), reachesMU rq s → rq.args = [] →
    (s.lc.line = .fault → exec (.lineReset rq) s = .next (refuse 19 rq .state (setClock rq.time s))) ∧
    (s.lc.line ≠ .fault →
      ∃ u, exec (.lineReset rq) s = .next (respondDone 19 rq 0 [] u) ∧
        u.lc = { s.lc with line := .stopped, restCount := 0 } ∧ u.mu.openWrite = none ∧ u.mu.flags = 0 ∧
        (s.mu.openWrite = none → u.report = s.report) ∧
        (∀ w, s.mu.openWrite = some w →
          let closing : Report :=
            .response w.source 1 w.tag .partialClose .state (w.requested - w.stored) (beBytes 2 w.pointer ++ byte w.stored)
          u.report = (placeReport closing s).report ∧ (s.report.length < 16 → u.report = s.report ++ [closing])) ∧
        (∀ e ∈ u.px.lookaside.toList, e.valid = false) ∧ u.px.pointer = 0 ∧ u.px.mem = s.px.mem ∧
        u.pq.pieces = [] ∧ u.pq.runList = [] ∧ u.pq.nextId = s.pq.nextId ∧
        (∀ i : Fin 8, u.pq.slots[i] =
          if s.pq.slots[i].state = .active then { s.pq.slots[i] with state := .loaded } else s.pq.slots[i]) ∧
        u.fs.state = .idle ∧ u.fs.cursor.piece = none ∧ u.fs.lastInfeed = 0 ∧ u.fs.formed = s.fs.formed ∧ u.cl = [] ∧
        u.sg.belt = 0 ∧ u.sg.governing = none ∧ u.sg.exitMark = none ∧
        u.sc.target = none ∧ u.sc.seam = none ∧ u.sc.firing = none ∧
        u.sc.state = (if (standbyUnwind s.sc).isSome then .ready else .idle) ∧ u.sc.unwindA = s.sc.unwindA ∧
        u.sc.unwindB = s.sc.unwindB ∧ u.sc.lastStatus = s.sc.lastStatus ∧
        u.tc.winder = .winding ∧ u.tc.current = { s.tc.current with ids := [], unlisted := 0 } ∧ u.tc.closing = none ∧
        u.tc.currentPiece = none ∧ u.tc.lastOrder = none ∧ u.tc.forced = false ∧ u.tc.heldOrder = false ∧
        u.tc.diameter = s.tc.diameter ∧ u.tc.lastStatus = s.tc.lastStatus ∧
        (∀ e ∈ u.act.entries, e.role ≠ .blade ∧ e.role ≠ .splicer ∧ e.role ≠ .knife ∧ e.role ≠ .turret) ∧
        (∃ e ∈ u.act.entries, e.role = .beltDrive ∧ e.command = .speed 0) ∧
        (∃ e ∈ u.act.entries, e.role = .infeedDrive ∧ e.command = .speed 0) ∧
        (∀ (z : Fin 8) (h : Half), (u.act.entries.filter fun e => decide (e.role = .valve z h)) =
          s.act.entries.filter fun e => decide (e.role = .valve z h)) ∧
        u.nm = s.nm ∧ u.pt = s.pt ∧ u.zr = s.zr ∧ u.da = s.da ∧ u.rp = s.rp)

/-! ### Orders and admission -/

/-- ENLIST appends a LOADED slot that is not in the run list; on a list that has a head nothing else changes, and on an
empty one the slot becomes ACTIVE and the admission check runs. Any other slot is refused (R28, R29, R33; the answer's COUNT by the model's choice, assumption 37). The check admits nothing in STEPPED mode. In CONTINUOUS mode it makes one whole admission
after another from an ACTIVE head while the line admits, the queue holds fewer than 48 pieces and fewer pieces are ADMITTED
than the admission depth, and stops where one of these fails. One admission whose walk completes appends one ADMITTED piece
with the plan walked; one that faults appends none and leaves its slot FAULTED (R32, R33, R35, R37). -/
def Obligations.EnlistAppendsALoadedSlot : Prop :=
  (∀ (rq : Request) (s : State), served rq s → rq.args.length = 1 →
    (8 ≤ field rq.args 0 1 → exec (.enlist rq) s = .next (refuse 11 rq .range (setClock rq.time s))) ∧
    ∀ i : Fin 8, field rq.args 0 1 = i.val →
      (i ∈ s.pq.runList ∨ s.pq.slots[i].state ≠ .loaded →
        exec (.enlist rq) s = .next (refuse 11 rq .state (setClock rq.time s))) ∧
      (i ∉ s.pq.runList → s.pq.slots[i].state = .loaded → s.pq.runList ≠ [] →
        exec (.enlist rq) s =
          .next
            (respondDone 11 rq (s.pq.runList.length + 1) []
              { setClock rq.time s with pq.runList := s.pq.runList ++ [i] })) ∧
      (s.pq.slots[i].state = .loaded → s.pq.runList = [] → s.lc.record.continuous = false →
        exec (.enlist rq) s =
          .next
            (respondDone 11 rq 1 []
              { setClock rq.time s with
                pq.runList := [i]
                pq.slots := s.pq.slots.set i { s.pq.slots[i] with state := .active } })) ∧
      (s.pq.slots[i].state = .loaded → s.pq.runList = [] →
        ∃ u, exec (.enlist rq) s = .next (respondDone 11 rq 1 [] u) ∧ u.fs.cursor = s.fs.cursor ∧ u.lc = s.lc ∧
          u.pt = s.pt ∧ u.zr = s.zr ∧ u.da = s.da ∧ u.tc = s.tc ∧ u.nm = s.nm ∧ cellsStand s u ∧ u.px.mem = s.px.mem ∧
          u =
            admissionCheck
              { setClock rq.time s with
                pq.runList := [i]
                pq.slots := s.pq.slots.set i { s.pq.slots[i] with state := .active } })) ∧
  (∀ s : State,
    let waiting (u : State) : Nat := (u.pq.pieces.filter fun p => decide (p.state = .admitted)).length
    let admits (u : State) (h : Fin 8) : Prop :=
      (u.lc.line = .stopped ∨ u.lc.line = .running ∨ u.lc.line = .stopping) ∧ u.pq.runList.head? = some h ∧
        u.pq.slots[h].state = .active ∧ u.pq.pieces.length < 48 ∧ waiting u < u.lc.record.depth
    (s.lc.record.continuous = false → admissionCheck s = s) ∧
      (s.lc.record.continuous = true →
        (∀ h, admits s h → admissionCheck s = admissionCheck (admitFrom h s).1) ∧
          ((∀ h, ¬admits s h) → admissionCheck s = s) ∧ (∀ h, ¬admits (admissionCheck s) h) ∧
          waiting (admissionCheck s) ≤ max (waiting s) s.lc.record.depth ∧
          ∃ more : List Nat, (admissionCheck s).pq.pieces.map Piece.id = s.pq.pieces.map Piece.id ++ more)) ∧
  ∀ (h : Fin 8) (s : State) (px : Translator),
    let o := s.pq.slots[h]
    let t := (admitFrom h s).1
    (∀ stop : WalkStop, walk s.px h o = (px, .error stop) →
      t.pq.pieces = s.pq.pieces ∧ t.pq.nextId = s.pq.nextId ∧ t.px = px ∧ flagHeld .patternFault t = true ∧
        t.pq.slots[h] =
          { o with
            state := .faulted
            fault := some { kind := stop.kind, entry := stop.entry, level := stop.level, cursor := o.cursor } }) ∧
    ∀ (plan : Plan) (n : Nat), walk s.px h o = (px, .ok (plan, n)) →
      ∃ front p, t.pq.pieces = front ++ [p] ∧ front.map Piece.id = s.pq.pieces.map Piece.id ∧
        front.map Piece.state = s.pq.pieces.map Piece.state ∧ p.id = newId s ∧ p.slot = some h ∧ p.load = o.load ∧
        p.cursor = o.cursor ∧ p.done = o.done ∧ p.state = .admitted ∧ p.plan = plan ∧
        p.beltStart = ((s.pq.pieces.getLast?.map Piece.beltEnd).getD s.fs.formed) ∧ t.px = px ∧ t.lc = s.lc ∧
        t.pq.nextId = if 65535 ≤ p.id then 1 else p.id + 1

/-- WITHDRAW removes a slot from the run list, unless it is the ACTIVE head or not in the list; the slot keeps its state
and counts, a LOADED slot that becomes head becomes ACTIVE, and the admission check runs (R28, R30, R33; the answer's COUNT by the model's choice, assumption 37). -/
def Obligations.WithdrawRemovesAllButTheActiveHead : Prop :=
  ∀ (rq : Request) (s : State), served rq s → rq.args.length = 1 →
    (8 ≤ field rq.args 0 1 → exec (.withdraw rq) s = .next (refuse 12 rq .range (setClock rq.time s))) ∧
    ∀ i : Fin 8, field rq.args 0 1 = i.val →
      (i ∉ s.pq.runList ∨ (s.pq.runList.head? = some i ∧ s.pq.slots[i].state = .active) →
        exec (.withdraw rq) s = .next (refuse 12 rq .state (setClock rq.time s))) ∧
      (i ∈ s.pq.runList → s.pq.runList.head? ≠ some i →
        exec (.withdraw rq) s =
          .next
            (respondDone 12 rq (s.pq.runList.filter fun j => decide (j ≠ i)).length []
              { setClock rq.time s with pq.runList := s.pq.runList.filter fun j => decide (j ≠ i) })) ∧
      (s.pq.runList.head? = some i → s.pq.slots[i].state ≠ .active → s.lc.record.continuous = false →
        ∃ u, exec (.withdraw rq) s =
            .next (respondDone 12 rq (s.pq.runList.filter fun j => decide (j ≠ i)).length [] u) ∧
          u.pq.runList = s.pq.runList.filter (fun j => decide (j ≠ i)) ∧ u.pq.slots[i] = s.pq.slots[i] ∧
          (∀ h ∈ u.pq.runList.head?, s.pq.slots[h].state = .loaded → u.pq.slots[h].state = .active) ∧
          u.pq.pieces = s.pq.pieces ∧ u.pq.nextId = s.pq.nextId ∧ u.fs = s.fs ∧ u.sc = s.sc ∧ u.lc = s.lc ∧ u.px = s.px) ∧
      (s.pq.runList.head? = some i → s.pq.slots[i].state ≠ .active →
        let list := s.pq.runList.filter fun j => decide (j ≠ i)
        exec (.withdraw rq) s =
          .next
            (respondDone 12 rq list.length []
              (admissionCheck
                { setClock rq.time s with
                  pq.runList := list
                  pq.slots :=
                    match list.head? with
                    | some h =>
                      if s.pq.slots[h].state = .loaded then s.pq.slots.set h { s.pq.slots[h] with state := .active }
                      else s.pq.slots
                    | none => s.pq.slots })))

/-- CLEAR naming a FAULTED slot removes its fault record: a slot that is not the head becomes LOADED, the head becomes
ACTIVE and the admission check runs; cursor and counts stand and the lookaside is not touched before it. Any other slot is
refused (R31, R33). -/
def Obligations.ClearReleasesAFaultedSlot : Prop :=
  ∀ (rq : Request) (s : State), served rq s → rq.args.length = 1 → field rq.args 0 1 ≠ 255 →
    (8 ≤ field rq.args 0 1 → exec (.clearSlot rq) s = .next (refuse 13 rq .range (setClock rq.time s))) ∧
    ∀ i : Fin 8, field rq.args 0 1 = i.val →
      (s.pq.slots[i].state ≠ .faulted → exec (.clearSlot rq) s = .next (refuse 13 rq .state (setClock rq.time s))) ∧
      (s.pq.slots[i].state = .faulted → s.pq.runList.head? ≠ some i →
        exec (.clearSlot rq) s =
          .next
            (respondDone 13 rq 0 []
              { setClock rq.time s with
                pq.slots := s.pq.slots.set i { s.pq.slots[i] with state := .loaded, fault := none } })) ∧
      (s.pq.slots[i].state = .faulted → s.pq.runList.head? = some i → s.lc.record.continuous = false →
        exec (.clearSlot rq) s =
          .next
            (respondDone 13 rq 0 []
              { setClock rq.time s with
                pq.slots := s.pq.slots.set i { s.pq.slots[i] with state := .active, fault := none } })) ∧
      (s.pq.slots[i].state = .faulted → s.pq.runList.head? = some i →
        ∃ u, exec (.clearSlot rq) s = .next (respondDone 13 rq 0 [] u) ∧ u.fs.cursor = s.fs.cursor ∧ u.lc = s.lc ∧
          u.pt = s.pt ∧ u.zr = s.zr ∧ u.da = s.da ∧ u.tc = s.tc ∧ u.nm = s.nm ∧ cellsStand s u ∧ u.px.mem = s.px.mem ∧
          u =
            admissionCheck
              { setClock rq.time s with
                pq.slots := s.pq.slots.set i { s.pq.slots[i] with state := .active, fault := none } })

/-- ADMIT is refused in CONTINUOUS mode, in HOLD and FAULT, without an ACTIVE head, and with 48 pieces in the queue, and
changes nothing then. From an ACTIVE head whose order is a FLAT designation it never faults: one panel piece is appended
whose plan is one flat lead of the slot's flat length, its belt span beginning where the queue's last one ends, and the
slot's skirts done advance by one, its cursor standing at 0 then (from a cursor other than 0 by the model's choice,
assumption 41); the answer carries the piece's id. With no splice armed or in flight nothing else of the queue, the
cells or the splicer changes. From a GRADE, STYLE or PANEL order whose walk completes, the piece has the plan walked, PLAN_ADJUSTED
is raised for an adjusted one, and the cursor advances by one, or completes a skirt; the last skirt makes the slot DONE,
takes it off the run list and raises ORDER_DONE, and a LOADED next member becomes ACTIVE. A walk that faults makes the slot
FAULTED with its fault record, raises PATTERN_FAULT, admits nothing, and is answered DONE with COUNT 0 and the record. The
piece's id is the counter's value when no queued piece has it, else the next free one, 65535 being followed by 1, and the
counter then stands one on from it (the counter steps past a taken id at that moment and not before by the model's choice,
assumption 56) (R15, R16, R28, R32, R34, R35, R36, R37, R38, R39, R40). -/
def Obligations.AdmitAppendsOnePieceOrIsRefused : Prop :=
  (∀ s : State,
    let next (n : Nat) : Nat := if 65535 ≤ n then 1 else n + 1
    let taken (n : Nat) : Prop := ∃ p ∈ s.pq.pieces, p.id = n
    let nth (k : Nat) : Nat := Nat.repeat next k s.pq.nextId
    (¬taken s.pq.nextId → newId s = s.pq.nextId) ∧
      ∀ k, (∀ j, j < k → taken (nth j)) → ¬taken (nth k) → newId s = nth k) ∧
  (∀ (rq : Request) (s : State), served rq s → rq.args = [] →
    (s.lc.record.continuous = true ∨ s.lc.line = .hold ∨ s.lc.line = .fault ∨ 48 ≤ s.pq.pieces.length ∨
      s.pq.runList = [] ∨ ∃ h rest, s.pq.runList = h :: rest ∧ s.pq.slots[h].state ≠ .active) →
    exec (.admitPiece rq) s = .next (refuse 10 rq .state (setClock rq.time s))) ∧
  (∀ (rq : Request) (s : State) (h : Fin 8) (rest : List (Fin 8)), served rq s → rq.args = [] →
    s.lc.record.continuous = false → s.lc.line = .stopped ∨ s.lc.line = .running ∨ s.lc.line = .stopping →
    s.pq.runList = h :: rest → s.pq.slots[h].state = .active → s.pq.pieces.length < 48 → s.pq.slots[h].dtype = .flat →
    ∃ u front p, exec (.admitPiece rq) s = .next (respondDone 10 rq 1 (beBytes 2 p.id) u) ∧
      u.pq.pieces = front ++ [p] ∧ front.map Piece.id = s.pq.pieces.map Piece.id ∧ p.id = newId s ∧ p.slot = some h ∧
      p.load = s.pq.slots[h].load ∧ p.done = s.pq.slots[h].done ∧ p.state = .admitted ∧ p.span = none ∧ p.doses = none ∧
      p.verdict = .good ∧
      p.plan =
        { mirror := false
          runs := [{ count := 0, spacing := 30, depthStart := 0, depthEnd := 0, taper := 1000, kind := .knife
                     dir := .left, lead := s.pq.slots[h].flatLength, flat := true }]
          cls := s.pq.slots[h].cls, tail := 0, infeed := s.pq.slots[h].flatLength, belt := s.pq.slots[h].flatLength
          adjusted := false } ∧
      p.beltStart = ((s.pq.pieces.getLast?.map Piece.beltEnd).getD s.fs.formed) ∧
      p.beltEnd = p.beltStart + BitVec.ofNat 32 s.pq.slots[h].flatLength ∧
      u.pq.slots[h].done = s.pq.slots[h].done + 1 ∧ u.pq.slots[h].cursor = 0 ∧
      (s.pq.slots[h].done + 1 = s.pq.slots[h].requested →
        u.pq.slots[h].state = .done ∧ u.pq.runList = rest.filter fun i => decide (i ≠ h)) ∧
      (s.pq.slots[h].done + 1 ≠ s.pq.slots[h].requested → u.pq.slots[h].state = .active ∧ u.pq.runList = s.pq.runList) ∧
      (s.sc.seam = none → s.sc.state = .idle ∨ s.sc.state = .ready →
        front = s.pq.pieces ∧ p.seam = none ∧ p.flags = { filler := false } ∧ u.cl = s.cl ∧ u.sc = s.sc) ∧
      (u.pq.nextId = if 65535 ≤ p.id then 1 else p.id + 1) ∧
      u.px = s.px ∧ u.fs.cursor = s.fs.cursor ∧ u.fs.state = s.fs.state ∧ u.lc = s.lc ∧ u.pt = s.pt ∧ u.zr = s.zr ∧
      u.da = s.da ∧ u.tc = s.tc ∧ u.nm = s.nm) ∧
  ∀ (rq : Request) (s : State) (h : Fin 8) (rest : List (Fin 8)) (px : Translator), served rq s → rq.args = [] →
    s.lc.record.continuous = false → s.lc.line = .stopped ∨ s.lc.line = .running ∨ s.lc.line = .stopping →
    s.pq.runList = h :: rest → s.pq.slots[h].state = .active → s.pq.pieces.length < 48 →
    let o := s.pq.slots[h]
    (∀ stop : WalkStop, walk s.px h o = (px, .error stop) →
      exec (.admitPiece rq) s =
        .next
          (respondDone 10 rq 0 (byte stop.kind.code ++ beBytes 2 stop.entry ++ byte stop.level.code ++ byte o.cursor)
            (raise .patternFault
              { setClock rq.time s with
                px := px
                pq.slots := s.pq.slots.set h
                  { o with
                    state := .faulted
                    fault := some { kind := stop.kind, entry := stop.entry, level := stop.level, cursor := o.cursor } } }))) ∧
    ∀ (plan : Plan) (styleLength : Nat), o.dtype ≠ .flat → walk s.px h o = (px, .ok (plan, styleLength)) →
      o.cursor < styleLength ∧
      ∃ u front p, exec (.admitPiece rq) s = .next (respondDone 10 rq 1 (beBytes 2 p.id) u) ∧
        u.pq.pieces = front ++ [p] ∧ front.map Piece.id = s.pq.pieces.map Piece.id ∧ p.id = newId s ∧ p.slot = some h ∧
        p.load = o.load ∧ p.gradeIndex = o.gradeIndex ∧ p.cursor = o.cursor ∧ p.done = o.done ∧ p.state = .admitted ∧
        p.span = none ∧ p.doses = none ∧ p.verdict = .good ∧ p.plan = plan ∧ p.flags.adjusted = plan.adjusted ∧
        (plan.adjusted = true → flagHeld .planAdjusted u = true) ∧
        p.beltStart = ((s.pq.pieces.getLast?.map Piece.beltEnd).getD s.fs.formed) ∧
        p.beltEnd = p.beltStart + BitVec.ofNat 32 plan.belt ∧
        (o.cursor + 1 ≠ styleLength →
          u.pq.slots[h] = { o with cursor := o.cursor + 1 } ∧ u.pq.runList = s.pq.runList) ∧
        (o.cursor + 1 = styleLength → o.done + 1 ≠ o.requested →
          u.pq.slots[h] = { o with cursor := 0, done := o.done + 1 } ∧ u.pq.runList = s.pq.runList) ∧
        (o.cursor + 1 = styleLength → o.done + 1 = o.requested →
          u.pq.slots[h] = { o with cursor := 0, done := o.done + 1, state := .done } ∧ flagHeld .orderDone u = true ∧
            u.pq.runList = rest.filter (fun i => decide (i ≠ h)) ∧
            ∀ i ∈ u.pq.runList.head?, s.pq.slots[i].state = .loaded → u.pq.slots[i].state = .active) ∧
        (u.pq.nextId = if 65535 ≤ p.id then 1 else p.id + 1) ∧
        u.px = px ∧ px.mem = s.px.mem ∧ u.fs.cursor = s.fs.cursor ∧ u.fs.state = s.fs.state ∧ u.lc = s.lc ∧ u.pt = s.pt ∧
        u.zr = s.zr ∧ u.da = s.da ∧ u.tc = s.tc ∧ u.nm = s.nm

/-- A plan a walk completes meets the ranges of the fold plan record: 1 to 8 runs, each within its adjusted ranges, a
tail below 3000, a belt length from 3000 up and no longer than the infeed length, which is at most 200,000
(R19, R20, R21, R24). A walk stops at its first fault, with the kind, level and entry it has there: at GRADE (table length,
grade index, index beyond 4095, fetch; a grade index other than 0 without a table), at STYLE (style length, cursor, index,
fetch), at PANEL (run count; each run in stored order: index, fetch, content, of which the count is checked before the kind
by the model's choice, assumption 42), at PLAN (EMPTY, LIMIT). One that completes gives the plan's runs adjusted, the panel's
mirror, the class of the panel entry, else of the grade entry, else of the slot, and a run flat where any of the entries
above it or its own says so (R11, R12, R13, R14, R16, R17, R18). A run is adjusted field by field: spacing and taper to the nearer bound,
each depth to at most min(3 × spacing, 1200) of the spacing so adjusted, an odd BOX count down by 1 and a BOX taper to 1000, a
lead to at most 50,000, all else unchanged; it is adjusted exactly when one of these changed. Its infeed length is its lead and
the consumption of its pleats; its belt length counts the spacings alone, and the infeed length when it is flat (R19, R20). -/
def Obligations.WalkedPlansMeetTheirRanges : Prop :=
  (∀ (px px' : Translator) (slot : Fin 8) (o : OrderSlot) (plan : Plan) (n : Nat), o.dtype ≠ .flat →
    walk px slot o = (px', .ok (plan, n)) →
    1 ≤ plan.runs.length ∧ plan.runs.length ≤ 8 ∧ plan.tail ≤ 2999 ∧ 3000 ≤ plan.belt ∧ plan.belt ≤ plan.infeed ∧
      plan.infeed ≤ 200000 ∧ plan.belt = (plan.runs.map runBelt).sum + plan.tail ∧
      plan.infeed = (plan.runs.map runInfeed).sum + plan.tail ∧
      (∀ r ∈ plan.runs, r.count ≤ 400 ∧ 30 ≤ r.spacing ∧ r.spacing ≤ 600 ∧ r.depthStart ≤ min (3 * r.spacing) 1200 ∧
        r.depthEnd ≤ min (3 * r.spacing) 1200 ∧ 250 ≤ r.taper ∧ r.taper ≤ 1000 ∧ r.lead ≤ 50000 ∧
        (r.kind = .box → r.count % 2 = 0 ∧ r.taper = 1000)) ∧
      px'.mem = px.mem) ∧
  (∀ (px : Translator) (slot : Fin 8) (o : OrderSlot), o.dtype ≠ .flat →
    let stops (px1 : Translator) (kind : WalkFault) (entry : Nat) (level : WalkLevel) : Prop :=
      walk px slot o = (px1, .error { kind := kind, entry := entry, level := level })
    let grade := o.origin + o.gradeIndex
    let listed := 1 ≤ o.length ∧ o.length ≤ 32
    let faultOf (q : StoredRun) : Option WalkFault :=
      if 400 < q.count then some .range else if q.kind = none then some .type else none
    (o.dtype = .grade →
      (¬listed → stops px .range o.origin .grade) ∧
      (listed → o.length ≤ o.gradeIndex ∨ 4095 < grade → stops px .range grade .grade) ∧
      ∀ px1 f, listed → o.gradeIndex < o.length → grade ≤ 4095 → fetch px grade .grade slot = (px1, .error f) →
        stops px1 f grade .grade) ∧
    (o.dtype ≠ .grade → o.gradeIndex ≠ 0 → stops px .range o.origin .grade) ∧
    ∀ (px1 : Translator) (ref : StyleRef),
      ((o.dtype = .grade ∧ listed ∧ o.gradeIndex < o.length ∧ grade ≤ 4095 ∧
          ∃ e, fetch px grade .grade slot = (px1, .ok e) ∧
            ref = { origin := gradeOrigin e, length := gradeLength e, flat := entryFlat e, cls := gradeClass e }) ∨
        (o.dtype ≠ .grade ∧ o.gradeIndex = 0 ∧ px1 = px ∧
          ref = { origin := o.origin, length := if o.dtype = .style then o.length else 1, flat := false, cls := none })) →
      let panel := ref.origin + o.cursor
      let styled := 1 ≤ ref.length ∧ ref.length ≤ 64
      (¬styled → stops px1 .range ref.origin .style) ∧
      (styled → ref.length ≤ o.cursor ∨ 4095 < panel → stops px1 .range panel .style) ∧
      ∀ (px2 : Translator) (result : Except WalkFault (List Byte)), styled → o.cursor < ref.length → panel ≤ 4095 →
        fetch px1 panel .panel slot = (px2, result) →
        (∀ f, result = .error f → stops px2 f panel .style) ∧
        ∀ e, result = .ok e →
          let flatAbove := ref.flat || entryFlat e
          let completes (px3 : Translator) (stored : List StoredRun) : Prop :=
            let runs := stored.map (adjustRun flatAbove)
            let infeed := (runs.map runInfeed).sum
            let belt := (runs.map runBelt).sum
            (belt = 0 → stops px3 .empty panel .plan) ∧
            (belt ≠ 0 → 200000 < infeed + (3000 - belt) → stops px3 .limit panel .plan) ∧
            (belt ≠ 0 → infeed + (3000 - belt) ≤ 200000 →
              ∃ plan, walk px slot o = (px3, .ok (plan, ref.length)) ∧ plan.runs = runs ∧ plan.mirror = panelMirror e ∧
                plan.cls = (panelClass e).getD (ref.cls.getD o.cls) ∧ plan.tail = 3000 - belt ∧
                (plan.runs.map Run.flat = stored.map fun q => flatAbove || q.flat) ∧
                (plan.adjusted = true ↔ belt < 3000 ∨ ∃ q ∈ stored, runAdjusted q (adjustRun flatAbove q) = true))
          (panelUniform e = true →
            (∀ f, faultOf (storedRun e 2 false) = some f → stops px2 f panel .panel) ∧
            (faultOf (storedRun e 2 false) = none → completes px2 [storedRun e 2 false])) ∧
          (panelUniform e = false →
            let count := panelRunCount e
            let origin := panelRunOrigin e
            (count = 0 ∨ 8 < count → stops px2 .range panel .panel) ∧
            ∀ (k : Nat) (fetched : Nat → List Byte) (reached : Nat → Translator), 1 ≤ count → count ≤ 8 → k ≤ count →
              reached 0 = px2 →
              let run (c : List Byte) : StoredRun := storedRun c 1 (entryFlat c)
              (∀ j, j < k → origin + j ≤ 4095 ∧ faultOf (run (fetched j)) = none ∧
                fetch (reached j) (origin + j) .run slot = (reached (j + 1), .ok (fetched j))) →
              (k < count → 4095 < origin + k → stops (reached k) .range (origin + k) .panel) ∧
              (∀ px3 f, k < count → origin + k ≤ 4095 → fetch (reached k) (origin + k) .run slot = (px3, .error f) →
                stops px3 f (origin + k) .panel) ∧
              (∀ px3 c f, k < count → origin + k ≤ 4095 → fetch (reached k) (origin + k) .run slot = (px3, .ok c) →
                faultOf (run c) = some f → stops px3 f (origin + k) .panel) ∧
              (k = count → completes (reached k) ((List.range k).map fun j => run (fetched j))))) ∧
  (∀ (above : Bool) (q : StoredRun) (kind : RunKind), q.kind = some kind →
    let spacing := if q.spacing < 30 then 30 else if 600 < q.spacing then 600 else q.spacing
    let limit := min (3 * spacing) 1200
    let r := adjustRun above q
    r =
        { count := if kind = .box ∧ q.count % 2 = 1 then q.count - 1 else q.count
          spacing := spacing
          depthStart := if limit < q.depthStart then limit else q.depthStart
          depthEnd := if limit < q.depthEnd then limit else q.depthEnd
          taper :=
            if kind = .box then 1000 else if q.taper < 250 then 250 else if 1000 < q.taper then 1000 else q.taper
          kind := kind
          dir := q.dir
          lead := if 50000 < q.lead then 50000 else q.lead
          flat := above || q.flat } ∧
      (runAdjusted q r = true ↔
        r.count ≠ q.count ∨ r.spacing ≠ q.spacing ∨ r.depthStart ≠ q.depthStart ∨ r.depthEnd ≠ q.depthEnd ∨
          r.taper ≠ q.taper ∨ r.lead ≠ q.lead)) ∧
  ∀ r : Run,
    runInfeed r = r.lead + ((List.range r.count).map fun k => r.spacing + (leftDepth r k + rightDepth r k)).sum ∧
      (r.flat = true → runBelt r = runInfeed r) ∧ (r.flat = false → runBelt r = r.lead + r.count * r.spacing)

/-- The depths of a run's pleats: the left depths go linearly, truncated toward zero, from the depth start to the depth
end, never leave the range between them, and the right depth is the left scaled by the taper and rounded half up, so at
most the left (R50). -/
def Obligations.PleatDepthsFollowTheTaper : Prop :=
  ∀ (r : Run), r.depthStart ≤ min (3 * r.spacing) 1200 → r.depthEnd ≤ min (3 * r.spacing) 1200 → r.taper ≤ 1000 →
    (r.count = 1 → leftDepth r 0 = r.depthStart) ∧
    (2 ≤ r.count → leftDepth r 0 = r.depthStart ∧ leftDepth r (r.count - 1) = r.depthEnd) ∧
    (∀ k, k < r.count → 2 ≤ r.count →
      (leftDepth r k : Int) =
        r.depthStart + Int.tdiv (((r.depthEnd : Int) - r.depthStart) * k) ((r.count : Int) - 1)) ∧
    (∀ k, k < r.count →
      min r.depthStart r.depthEnd ≤ leftDepth r k ∧ leftDepth r k ≤ max r.depthStart r.depthEnd ∧
        leftDepth r k ≤ min (3 * r.spacing) 1200) ∧
    (∀ k, k < r.count → 2 ≤ r.count → r.depthEnd < r.depthStart →
      ((r.depthStart : Int) * ((r.count : Int) - 1) + ((r.depthEnd : Int) - r.depthStart) * k) ≤
        (leftDepth r k : Int) * ((r.count : Int) - 1)) ∧
    (∀ k, k < r.count → rightDepth r k = (leftDepth r k * r.taper + 500) / 1000 ∧ rightDepth r k ≤ leftDepth r k) ∧
    (r.count = 4 → r.depthStart = 300 → r.depthEnd = 100 → r.taper = 800 →
      (List.range 4).map (leftDepth r) = [300, 234, 167, 100] ∧ (List.range 4).map (rightDepth r) = [240, 187, 134, 80])

/-- PURGE marks the valid entries of one slot, or of all, invalid, counts them, and moves neither the pointer nor
anything else, an entry purged keeping its tag, slot and copy (the model's choice, assumption 16); a target that names no
slot is refused RANGE (R7). A fetch that hits a valid entry uses its copy and changes nothing; one that misses reads
pattern memory and, when it succeeds, installs what it read at the pointer, which advances from 31 back to 0. Either
faults INVALID with VALID 0 and then TYPE with another KIND, and a miss that faults installs nothing (R5, R6). -/
def Obligations.PurgeInvalidatesAndCounts : Prop :=
  (∀ (rq : Request) (s : State), served rq s → rq.args.length = 1 →
    let purges (e : LookEntry) : Bool := e.valid && (decide (field rq.args 0 1 = 255) || decide (e.slot.val = field rq.args 0 1))
    (field rq.args 0 1 = 255 ∨ field rq.args 0 1 < 8 →
      exec (.purge rq) s =
        .next
          (respondDone 16 rq (s.px.lookaside.toList.filter purges).length []
            { setClock rq.time s with
              px.lookaside := s.px.lookaside.map fun e => if purges e then { e with valid := false } else e })) ∧
    (8 ≤ field rq.args 0 1 → field rq.args 0 1 ≠ 255 →
      exec (.purge rq) s = .next (refuse 16 rq .range (setClock rq.time s)))) ∧
  ∀ (px : Translator) (index : Nat) (kind : EntryKind) (slot : Fin 8),
    let holds (k : Fin 32) : Prop := px.lookaside[k].valid = true ∧ px.lookaside[k].tag = index
    let judged (content : List Byte) : Except WalkFault (List Byte) :=
      if bitAt content 0 7 = false then .error .invalid else if entryKind content ≠ some kind then .error .type else .ok content
    (∀ k, holds k → (∀ j, holds j → j = k) → fetch px index kind slot = (px, judged px.lookaside[k].copy)) ∧
    ((∀ k, ¬holds k) →
      let content := readEntry px.mem index
      (judged content ≠ .ok content → fetch px index kind slot = (px, judged content)) ∧
      (judged content = .ok content →
        ∃ px', fetch px index kind slot = (px', .ok content) ∧ px'.mem = px.mem ∧ px'.clearing = px.clearing ∧
          px'.pointer.val = (px.pointer.val + 1) % 32 ∧
          px'.lookaside[px.pointer] = { valid := true, tag := index, slot := slot, copy := content } ∧
          ∀ k, k ≠ px.pointer → px'.lookaside[k] = px.lookaside[k]))

/-! ### Zones -/

/-- WAKE and STANDBY reach one enabled zone, or every enabled zone under 0 (ALL), and change its state, target and
in-band count by the zone's state alone; COUNT is the number of zones changed, no other zone's state, target or count
moves, and nothing but the zones and the VALVE frames changes. A zone number above 8 is refused RANGE, a disabled zone
STATE, and STANDBY in RUNNING and HOLD STATE. A zone woken from SHUT under manual control goes to its manual values. Each pair's
lock is judged again after STANDBY and after WAKE, one newly engaged giving the even zone the odd zone's openings, those WAKE
has just set among them, and no valve moves else; the lock of a pair whose odd zone is SHUT is taken as not engaged before the
WAKE, as in every state a run reaches (CellsAndValvesStayInRange) (R96, R97, R103, R104; the order of STANDBY's checks by the
model's choice, assumption 27, and the judging once after every zone, assumption 15). -/
def Obligations.StandbyAndWakeMoveTheZones : Prop :=
  ∀ (rq : Request) (s : State), served rq s → rq.args.length = 1 →
    let n := field rq.args 0 1
    let named (z : Fin 8) : Bool := decide (n = 0 ∨ n = z.val + 1) && decide (s.zr.zones[z].stored.length ≠ 0)
    let wakes (z : Fin 8) : Bool :=
      named z && decide (s.zr.zones[z].state = .shut ∨ s.zr.zones[z].state = .standby ∨ s.zr.zones[z].state = .standbySettling)
    let stands (z : Fin 8) : Bool :=
      named z && decide (s.zr.zones[z].state = .heating ∨ s.zr.zones[z].state = .waking ∨ s.zr.zones[z].state = .ready)
    let count (f : Fin 8 → Bool) : Nat := (zoneIndices.filter f).length
    let onlyZones (u : State) : Prop := u = { setClock rq.time s with zr := u.zr, act := u.act }
    let moved (f : Fin 8 → Bool) (new : Zone → ZoneState) (target : ZoneStored → Nat) (u : State) : Prop :=
      ∀ z : Fin 8,
        u.zr.zones[z].stored = s.zr.zones[z].stored ∧ u.zr.zones[z].stale = s.zr.zones[z].stale ∧
          u.zr.zones[z].temp = s.zr.zones[z].temp ∧
          (f z = true →
            u.zr.zones[z].state = new s.zr.zones[z] ∧ u.zr.zones[z].target = some (target s.zr.zones[z].stored) ∧
              u.zr.zones[z].inBand = 0) ∧
          (f z = false →
            u.zr.zones[z].state = s.zr.zones[z].state ∧ u.zr.zones[z].target = s.zr.zones[z].target ∧
              u.zr.zones[z].inBand = s.zr.zones[z].inBand) ∧
          (s.zr.zones[oddZone (pairOf z)].stored.lock = false →
            s.zr.zones[z].stored.manual = false ∨ s.zr.zones[z].state ≠ .shut ∨ f z = false →
            u.zr.zones[z].upper = s.zr.zones[z].upper ∧ u.zr.zones[z].lower = s.zr.zones[z].lower)
    (8 < n → exec (.wake rq) s = .next (refuse 15 rq .range (setClock rq.time s))) ∧
    (∀ z : Fin 8, n = z.val + 1 → s.zr.zones[z].stored.length = 0 →
      exec (.wake rq) s = .next (refuse 15 rq .state (setClock rq.time s))) ∧
    (n = 0 ∨ (∃ z : Fin 8, n = z.val + 1 ∧ s.zr.zones[z].stored.length ≠ 0) →
      ∃ u, exec (.wake rq) s = .next (respondDone 15 rq (count wakes) [] u) ∧ onlyZones u ∧
        moved wakes (fun z => if z.state = .shut then .heating else .waking) ZoneStored.setpoint u ∧
        ∀ z : Fin 8, wakes z = true → s.zr.zones[z].state = .shut → s.zr.zones[z].stored.manual = true →
          s.zr.zones[oddZone (pairOf z)].stored.lock = false →
          u.zr.zones[z].upper.valve = min s.zr.zones[z].stored.manualUpper s.zr.zones[z].stored.valveMax ∧
            u.zr.zones[z].lower.valve = min s.zr.zones[z].stored.manualLower s.zr.zones[z].stored.valveMax ∧
            u.zr.zones[z].upper.lastSent = some u.zr.zones[z].upper.valve ∧
            u.zr.zones[z].lower.lastSent = some u.zr.zones[z].lower.valve) ∧
    (n = 0 ∨ (∃ z : Fin 8, n = z.val + 1 ∧ s.zr.zones[z].stored.length ≠ 0) →
      ∃ u, exec (.wake rq) s = .next (respondDone 15 rq (count wakes) [] u) ∧
        ∀ p : Fin 4,
          let odd := u.zr.zones[oddZone p]
          let even := u.zr.zones[evenZone p]
          let driven (z : Fin 8) : Prop :=
            wakes z = true ∧ s.zr.zones[z].state = .shut ∧ s.zr.zones[z].stored.manual = true
          let set (opening : Nat) (r : HalfRecord) : HalfRecord := { r with valve := opening, lastSent := some opening }
          let manual (z : Fin 8) (h : Half) : Nat :=
            min (match h with
                | .upper => s.zr.zones[z].stored.manualUpper
                | .lower => s.zr.zones[z].stored.manualLower) s.zr.zones[z].stored.valveMax
          (u.zr.locks[p] = true ↔
            odd.stored.lock = true ∧ odd.stored.length ≠ 0 ∧ even.stored.length ≠ 0 ∧ odd.state ≠ .shut ∧
              even.state ≠ .shut ∧ even.stored.manual = false ∧ odd.target = even.target) ∧
            ∀ h : Half,
              (driven (oddZone p) →
                odd.half h = set (manual (oddZone p) h) (s.zr.zones[oddZone p].half h)) ∧
              (¬driven (oddZone p) → odd.half h = s.zr.zones[oddZone p].half h) ∧
              ((s.zr.locks[p] = true → s.zr.zones[oddZone p].state ≠ .shut) →
                (u.zr.locks[p] = true → s.zr.locks[p] = false →
                  even.half h = set (min (odd.half h).valve even.stored.valveMax) (s.zr.zones[evenZone p].half h)) ∧
                (driven (evenZone p) →
                  even.half h = set (manual (evenZone p) h) (s.zr.zones[evenZone p].half h)) ∧
                (u.zr.locks[p] = false ∨ s.zr.locks[p] = true → ¬driven (evenZone p) →
                  even.half h = s.zr.zones[evenZone p].half h))) ∧
    (s.lc.line = .running ∨ s.lc.line = .hold →
      exec (.standby rq) s = .next (refuse 14 rq .state (setClock rq.time s))) ∧
    (s.lc.line ≠ .running → s.lc.line ≠ .hold →
      (8 < n → exec (.standby rq) s = .next (refuse 14 rq .range (setClock rq.time s))) ∧
      (∀ z : Fin 8, n = z.val + 1 → s.zr.zones[z].stored.length = 0 →
        exec (.standby rq) s = .next (refuse 14 rq .state (setClock rq.time s))) ∧
      (n = 0 ∨ (∃ z : Fin 8, n = z.val + 1 ∧ s.zr.zones[z].stored.length ≠ 0) →
        ∃ u, exec (.standby rq) s = .next (respondDone 14 rq (count stands) [] u) ∧ onlyZones u ∧
          moved stands (fun _ => .standbySettling) ZoneStored.standbyPoint u ∧
          stoodBy (fun z => decide (n = 0 ∨ n = z.val + 1)) s u))

/-- A good probe sample, limited to 0..2500, is taken by its half: FRESH, with its temperature and arrival time, and the
zone temperature follows. A disabled zone takes no more. An enabled one is no longer STALE, its half is stepped by the
error of that half, the zone is evaluated, its cells are credited for the time since the zone's last accrual, and that
time becomes the arrival; the other half, the other pairs of zones and every piece stand. While the lock of a pair stays
engaged, a valve the odd zone sets is set in the even zone too, limited to its own valve max, and the even zone's own
regulation is paused; no other sample touches the other zone of the pair (R104, R105). A half in band has its valve set
not at all (the model's choice, assumption 14). A cell that stands at 16,777,215 with residue 0 counts as saturated (the
model's choice, assumption 13); a credit of 0 ms changes no cell. A cell's Tbase is that of the class of the piece it names,
and for a GAP cell that of the line record's filler class (R91, R93, R95, R101, R110, R111, R112, R114). -/
def Obligations.ProbeSamplesRegulateAndAccrue : Prop :=
  ∀ (z : Fin 8) (h : Half) (x : Sample) (s : State), sampled x s →
    let temp := min x.value.toInt.toNat 2500
    let old := s.zr.zones[z]
    let half := { old.half h with temp := some temp, fresh := .fresh, lastArrival := x.time }
    let other := old.half (match h with | .upper => .lower | .lower => .upper)
    let mean := if other.fresh = .fresh then (temp + other.temp.getD 0) / 2 else temp
    let ms := match s.da.lastAccrual[z] with | none => 0 | some t => min (x.time - t).toNat 1000
    let err : Int → Int := fun target => target - temp
    let cls (c : BeltCell) : Fin 16 :=
      match c.piece with
      | none => s.lc.record.fillerClass
      | some id =>
        match s.pq.pieces.find? fun p => decide (p.id = id) with
        | some p => p.plan.cls
        | none => s.lc.record.fillerClass
    (old.stored.length = 0 →
      exec (.probeSample z h x) s =
        .next
          { setClock x.time s with zr.zones := s.zr.zones.set z { old.setHalf h half with temp := some mean } }) ∧
    (old.stored.length ≠ 0 →
      ∃ t, exec (.probeSample z h x) s = .next t ∧ t.zr.zones[z].stored = old.stored ∧ t.zr.zones[z].stale = false ∧
        t.zr.zones[z].temp = some mean ∧ t.zr.zones[z].target = old.target ∧
        (t.zr.zones[z].half h).temp = some temp ∧ (t.zr.zones[z].half h).fresh = .fresh ∧
        (t.zr.zones[z].half h).lastArrival = x.time ∧
        t.zr.zones[z].half (match h with | .upper => .lower | .lower => .upper) = other ∧
        (old.state = .shut →
          t.zr.zones[z].half h = half ∧ t.zr.zones[z].state = .shut ∧ t.zr.zones[z].inBand = old.inBand) ∧
        (∀ target, old.state ≠ .shut → old.target = some target → old.stored.manual = false →
          z.val % 2 = 0 ∨ s.zr.locks[pairOf z] = false →
          (t.zr.zones[z].half h).valve =
            if (old.stored.fastThreshold : Int) < err target then min (half.valve + old.stored.stepFast) old.stored.valveMax
            else if (old.stored.band : Int) < err target then min (half.valve + old.stored.stepSlow) old.stored.valveMax
            else if err target < -(old.stored.fastThreshold : Int) then
              min (half.valve - old.stored.stepFast) old.stored.valveMax
            else if err target < -(old.stored.band : Int) then min (half.valve - old.stored.stepSlow) old.stored.valveMax
            else half.valve) ∧
        (old.stored.manual = true → (t.zr.zones[z].half h).valve = half.valve) ∧
        (let odd := s.zr.zones[oddZone (pairOf z)]
         let even := s.zr.zones[evenZone (pairOf z)]
         let engaged := s.zr.locks[pairOf z] = true ∧ odd.stored.lock = true ∧ odd.stored.length ≠ 0 ∧
           even.stored.length ≠ 0 ∧ odd.state ≠ .shut ∧ even.state ≠ .shut ∧ even.stored.manual = false ∧
           odd.target = even.target
         let steps := old.stored.manual = false ∧ ∃ target, old.target = some target ∧
           ((old.stored.fastThreshold : Int) < err target ∨ (old.stored.band : Int) < err target ∨
             err target < -(old.stored.fastThreshold : Int) ∨ err target < -(old.stored.band : Int))
         t.zr.locks = s.zr.locks ∧
           (z.val % 2 = 1 →
             t.zr.zones[oddZone (pairOf z)] = odd ∧ (engaged → t.zr.zones[z].half h = half)) ∧
           (z.val % 2 = 0 →
             (engaged → steps →
               let opening := min (t.zr.zones[z].half h).valve even.stored.valveMax
               t.zr.zones[evenZone (pairOf z)] =
                 even.setHalf h { even.half h with valve := opening, lastSent := some opening }) ∧
             (¬engaged ∨ ¬steps → t.zr.zones[evenZone (pairOf z)] = even))) ∧
        (∀ target, old.state ≠ .shut → old.target = some target →
          (mean ≤ target + old.stored.band ∧ target ≤ mean + old.stored.band →
            t.zr.zones[z].inBand = min (old.inBand + 1) 3 ∧
              (old.inBand + 1 < 3 → t.zr.zones[z].state = old.state) ∧
              (3 ≤ old.inBand + 1 →
                t.zr.zones[z].state =
                  if old.state = .heating ∨ old.state = .waking then .ready
                  else if old.state = .standbySettling then .standby else old.state)) ∧
          (¬(mean ≤ target + old.stored.band ∧ target ≤ mean + old.stored.band) →
            t.zr.zones[z].inBand = 0 ∧ t.zr.zones[z].state = old.state)) ∧
        (∀ y : Fin 8, pairOf y ≠ pairOf z → t.zr.zones[y] = s.zr.zones[y]) ∧
        t.da = { s.da with lastAccrual := s.da.lastAccrual.set z (some x.time) } ∧
        t.cl =
          s.cl.map (fun c =>
            let q := (mean - (s.da.classes[cls c]).tbase) * ms + c.residue
            if old.stored.start ≤ c.index ∧ c.index < old.stored.start + old.stored.length then
              if 16777215 < c.dose + q / 1000 ∨ (c.dose = 16777215 ∧ c.residue = 0) then
                { c with dose := 16777215, residue := 0 }
              else { c with dose := c.dose + q / 1000, residue := q % 1000 }
            else c) ∧
        (ms = 0 → (∀ c ∈ s.cl, c.residue ≤ 999 ∧ c.dose ≤ 16777215) → t.cl = s.cl) ∧
        t.pq = s.pq ∧ t.fs.cursor = s.fs.cursor ∧ t.fs.state = s.fs.state ∧ t.pt = s.pt ∧ t.sc = s.sc ∧ t.tc = s.tc ∧
        t.lc = s.lc ∧ t.nm = s.nm ∧ t.px = s.px ∧ t.rp = s.rp)

/-- HALF_EXPIRY: a FRESH half 1000 ms after its last arrival is OUT, its valve holding, and the zone temperature follows
the other half. An enabled zone left with no FRESH half is STALE: no temperature, count 0, ZONE_STALE, and every cell in
it UNCERTAIN; its state stands. Before that, and for a half not FRESH, nothing changes but the clock reading (R92, R93;
the model's choice, assumption 4). -/
def Obligations.HalvesExpireAfterASecond : Prop :=
  ∀ (z : Fin 8) (h : Half) (time : Clock) (s : State), s.rp.inReset = false →
    let old := s.zr.zones[z]
    let half := old.half h
    let other := old.half (match h with | .upper => .lower | .lower => .upper)
    let out := old.setHalf h { half with fresh := .out }
    let due := half.fresh = .fresh ∧ 1000 ≤ (time - half.lastArrival).toNat
    (¬due → exec (.halfExpiry z h time) s = .next (setClock time s)) ∧
    (due → old.stored.length = 0 ∨ other.fresh = .fresh →
      exec (.halfExpiry z h time) s =
        .next
          { setClock time s with
            zr.zones := s.zr.zones.set z { out with temp := if other.fresh = .fresh then other.temp else none } }) ∧
    (due → old.stored.length ≠ 0 → other.fresh ≠ .fresh →
      ∃ t, exec (.halfExpiry z h time) s = .next t ∧ flagHeld .zoneStale t = true ∧
        t.zr = { s.zr with zones := s.zr.zones.set z { out with temp := none, stale := true, inBand := 0 } } ∧
        t.cl =
          s.cl.map (fun c =>
            if old.stored.start ≤ c.index ∧ c.index < old.stored.start + old.stored.length then { c with uncertain := true }
            else c) ∧
        t.pq = s.pq ∧ t.da = s.da ∧ t.fs.cursor = s.fs.cursor ∧ t.fs.state = s.fs.state ∧ t.pt = s.pt ∧ t.sc = s.sc ∧
        t.tc = s.tc ∧ t.lc = s.lc ∧ t.nm = s.nm ∧ t.px = s.px ∧ t.rp = s.rp)

/-! ### The governor -/

/-- The governor's recompute: the governing piece is the most demanding piece of the population, the heat limit is what
the enabled zones give its requirement, at most belt max, and the belt command, placed as a SPEED frame when it changes,
never exceeds the setpoint, nor in RUNNING, above crawl, the heat limit (R120, R122, R123, R125, R126, R127). When the
belt command changes, and when FS sets its ratio, the infeed command becomes the belt command, or under a pleat ratio its
product by consumption over spacing, rounded down, capped at infeed max, and is placed as a SPEED frame for the infeed drive
when it differs from the last (R61, R62). The population is the queue's pieces, filler left out, that are FORMING or named by a cell below
the last zone end, the highest end of an enabled zone or 0; the requirement of a piece is Dmin with its margin, and with the
splice surplus, rounded down, while it holds a seam whose formed position is not before the exit mark plus 1000 (R120, R122).
The infeed limit is infeed max, and in the lead, a land or a fold of a folded run
with a pleat, infeed max times the run's spacing over its largest consumption, rounded down (R124). -/
def Obligations.HeatLimitFollowsTheGoverningPiece : Prop :=
  let infeed (r : Ratio) (belt infeedMax : Nat) : Nat :=
    match r with
    | .flat => min belt infeedMax
    | .pleat consumed spacing => min (belt * consumed / spacing) infeedMax
  (∀ s : State,
    let t := recompute s
    (population s = [] →
      t.sg.governing = none ∧ t.sg.requirement = 0 ∧ t.sg.vHeat = s.lc.record.beltMax) ∧
    (population s ≠ [] →
      ∃ before p after, population s = before ++ p :: after ∧ t.sg.governing = some p.id ∧
        t.sg.requirement = requirement p s ∧
        (∀ q ∈ population s, requirement q s ≤ requirement p s) ∧
        (∀ q ∈ population s, requirement q s = requirement p s → (classOf q s).tbase ≤ (classOf p s).tbase) ∧
        (∀ q ∈ before, requirement q s = requirement p s → (classOf q s).tbase < (classOf p s).tbase) ∧
        (requirement p s = 0 → t.sg.vHeat = s.lc.record.beltMax) ∧
        (requirement p s ≠ 0 →
          t.sg.vHeat =
            min
              ((zoneIndices.map fun z =>
                    if s.zr.zones[z].stored.length ≠ 0 ∧ s.zr.zones[z].stale = false then
                      (s.zr.zones[z].temp.getD 0 - (classOf p s).tbase) * (100 * s.zr.zones[z].stored.length)
                    else 0).sum * 1000 / requirement p s)
              s.lc.record.beltMax)) ∧
    t.sg.belt ≤ s.lc.record.setpoint ∧
    (s.lc.line = .running →
      t.sg.belt ≤ max (min t.sg.vHeat t.sg.vInf) s.lc.record.crawl ∧
        (t.sg.vHeat < s.lc.record.crawl → s.lc.record.crawl ≤ s.lc.record.setpoint →
          t.sg.belt = s.lc.record.crawl ∧ flagHeld .heatShort t = true)) ∧
    (s.lc.line = .hold → t.sg.belt = min s.lc.record.crawl s.lc.record.setpoint) ∧
    (s.lc.line = .stopping ∨ s.lc.line = .stopped ∨ s.lc.line = .fault → t.sg.belt = 0) ∧
    (let drawn := s.fs.cursor.item = .lead ∨ s.fs.cursor.item = .land ∨ s.fs.cursor.item = .fold
     (s.fs.cursor.piece = none ∨ ¬drawn → t.sg.vInf = s.lc.record.infeedMax) ∧
       ∀ id p r, s.fs.cursor.piece = some id → findPiece id s = some p → drawn →
         (if p.plan.mirror = true then p.plan.runs.reverse else p.plan.runs)[s.fs.cursor.run]? = some r →
         (r.flat = true ∨ r.count = 0 → t.sg.vInf = s.lc.record.infeedMax) ∧
           (∀ most, r.flat = false → (∀ k, k < r.count → r.spacing + leftDepth r k + rightDepth r k ≤ most) →
             (∃ k, k < r.count ∧ r.spacing + leftDepth r k + rightDepth r k = most) →
             t.sg.vInf = s.lc.record.infeedMax * r.spacing / most)) ∧
    (t.sg.belt = s.sg.belt → t.act = s.act) ∧
    (t.sg.belt ≠ s.sg.belt → ∃ e ∈ t.act.entries, e.role = .beltDrive ∧ e.command = .speed t.sg.belt) ∧
    (t.sg.belt = s.sg.belt → t.fs = s.fs) ∧
    (t.sg.belt ≠ s.sg.belt →
      let command := infeed s.fs.cursor.ratio t.sg.belt s.lc.record.infeedMax
      t.fs = { s.fs with lastInfeed := command } ∧
        (command ≠ s.fs.lastInfeed → ∃ e ∈ t.act.entries, e.role = .infeedDrive ∧ e.command = .speed command)) ∧
    t.sg.exitMark = s.sg.exitMark ∧ t.pq = s.pq ∧ t.cl = s.cl ∧ t.zr = s.zr ∧ t.da = s.da ∧ t.pt = s.pt ∧ t.sc = s.sc ∧
    t.tc = s.tc ∧ t.lc = s.lc ∧ t.px = s.px ∧ t.fs.cursor = s.fs.cursor ∧ t.fs.formed = s.fs.formed) ∧
  (∀ (r : Ratio) (s : State),
    let u := recompute { s with fs.cursor.ratio := r }
    let t := setRatio r s
    let command := infeed r u.sg.belt s.lc.record.infeedMax
    t.sg = u.sg ∧ t.fs = { s.fs with cursor := { s.fs.cursor with ratio := r }, lastInfeed := command } ∧
      (command = u.fs.lastInfeed → t = u) ∧
      (command ≠ u.fs.lastInfeed →
        (∃ e ∈ t.act.entries, e.role = .infeedDrive ∧ e.command = .speed command) ∧
          t = { u with fs := t.fs, act := t.act })) ∧
  ∀ s : State,
    let last (z : Fin 8) : Nat := s.zr.zones[z].stored.start + s.zr.zones[z].stored.length
    let enabled (z : Fin 8) : Prop := s.zr.zones[z].stored.length ≠ 0
    (∀ z, enabled z → last z ≤ lastZoneEnd s) ∧ ((∃ z, enabled z ∧ lastZoneEnd s = last z) ∨ lastZoneEnd s = 0) ∧
      (population s =
        s.pq.pieces.filter fun p =>
          !p.flags.filler &&
            (decide (p.state = .forming) ||
              s.cl.any fun c => decide (c.piece = some p.id ∧ c.index < lastZoneEnd s))) ∧
      ∀ p : Piece,
        let k := s.da.classes[p.plan.cls]
        let seamCounts := ∃ r, p.seam = some r ∧
          ∀ mark, s.sg.exitMark = some mark → 0 ≤ (p.beltStart + BitVec.ofNat 32 r.offset - (mark + 1000)).toInt
        classOf p s = k ∧ (¬seamCounts → requirement p s = k.dmin * (1000 + k.margin)) ∧
          (seamCounts → requirement p s = k.dmin * (1000 + k.margin) * (1000 + k.splice) / 1000)

/-! ### Encoders and timers -/

/-- An encoder sample by the record's state: UNSEEN is seeded, with the belt's next boundary 1000 on; FAULT is noted and
not applied; an advance above 8000 units faults the record and the line, its position kept; a negative one is held and
raises REVERSE. A belt in FAULT that comes to rest completes a waiting CLEAR, and its record goes on from the position
it held (R73, R74, R75, R77, R78, R174). A belt sample held or not applied is judged by the line like any other, by its raw
count: in STOPPING the rest count rises, or is 0 after an advance, and the second sample with none brings STOPPED; in FAULT
with CLEAR waiting one with none leaves FAULT. The judgement comes after the record and REVERSE and before the line fault of
a jump (the model's choice, assumption 10). Each entry to STOPPED puts every enabled zone to standby with standby-on-stop set,
the locks judged once after them all (the model's choice, assumption 15), and leaves the zones with it clear (R78, R98, R171,
R174). -/
def Obligations.EncoderSamplesAreTakenByState : Prop :=
  ∀ (x : Sample) (s : State), sampled x s →
    let noted (r : EncoderRecord) : EncoderRecord := { r with raw := x.value, lastArrival := x.time }
    let seeded (r : EncoderRecord) : EncoderRecord :=
      { noted r with state := .tracking, held := x.value + r.offset, lastStamp := x.stamp, speed := 0 }
    let moved (r : EncoderRecord) : Int := (x.value + r.offset - r.held).toInt
    let reports (r : EncoderRecord) : Prop := r.state = .tracking ∨ r.state = .stale
    let plain := s.lc.line ≠ .stopping ∧ s.lc.clearPending = false
    (s.pt.infeed.state = .unseen →
      exec (.encoderSample .infeed x) s = .next { setClock x.time s with pt.infeed := seeded s.pt.infeed }) ∧
    (s.pt.belt.state = .unseen →
      exec (.encoderSample .belt x) s =
        .next
          { setClock x.time s with
            pt.belt := seeded s.pt.belt
            pt.nextBoundary := x.value + s.pt.belt.offset + 1000 }) ∧
    (s.pt.infeed.state = .fault →
      exec (.encoderSample .infeed x) s = .next { setClock x.time s with pt.infeed := noted s.pt.infeed }) ∧
    (s.pt.belt.state = .fault → plain →
      exec (.encoderSample .belt x) s = .next { setClock x.time s with pt.belt := noted s.pt.belt }) ∧
    (s.pt.belt.state = .fault → s.lc.line = .fault → s.lc.clearPending = true → (x.value - s.pt.belt.raw).toInt ≤ 0 →
      ∃ t, exec (.encoderSample .belt x) s = .next t ∧
        t.lc = { s.lc with line := .stopped, cause := none, further := 0, clearPending := false } ∧ t.sg.belt = 0 ∧
        t.pt.belt.state = .tracking ∧ t.pt.belt.held = s.pt.belt.held ∧ t.pt.belt.raw = x.value ∧
        t.pt.belt.raw + t.pt.belt.offset = s.pt.belt.held ∧ t.pt.belt.speed = 0 ∧
        t.pt.nextBoundary = s.pt.nextBoundary ∧ standbyTaken s t ∧ cellsStand s t) ∧
    (reports s.pt.infeed → 8000 < moved s.pt.infeed →
      ∃ t, exec (.encoderSample .infeed x) s = .next t ∧
        faultsLine .encoderJump { setClock x.time s with pt.infeed := { noted s.pt.infeed with state := .fault } } t) ∧
    (reports s.pt.belt → 8000 < moved s.pt.belt → plain →
      ∃ t, exec (.encoderSample .belt x) s = .next t ∧
        faultsLine .encoderJump { setClock x.time s with pt.belt := { noted s.pt.belt with state := .fault } } t) ∧
    (let shows := 0 < (x.value - s.pt.belt.raw).toInt
     let heard (u j : State) : Prop :=
       (u.lc.line = .stopping →
         (shows → j = { u with lc.restCount := 0 }) ∧
           (¬shows → u.lc.restCount = 0 → j = { u with lc.restCount := 1 }) ∧
           (¬shows → u.lc.restCount ≠ 0 →
             j = changeLine .stopped { u with lc.restCount := 0 } ∧ j.lc.line = .stopped ∧ standbyTaken u j)) ∧
       (u.lc.line = .fault → u.lc.clearPending = true → ¬shows →
         j = leaveFault u ∧ j.lc.line = .stopped ∧ standbyTaken u j) ∧
       (u.lc.line ≠ .stopping → u.lc.line ≠ .fault ∨ u.lc.clearPending = false ∨ shows → j = u)
     (s.pt.belt.state = .fault →
       ∃ j, exec (.encoderSample .belt x) s = .next j ∧ heard { setClock x.time s with pt.belt := noted s.pt.belt } j) ∧
     (reports s.pt.belt → 8000 < moved s.pt.belt →
       ∃ j t, exec (.encoderSample .belt x) s = .next t ∧ faultsLine .encoderJump j t ∧
         heard { setClock x.time s with pt.belt := { noted s.pt.belt with state := .fault } } j) ∧
     (reports s.pt.belt → moved s.pt.belt < 0 →
       ∃ j, exec (.encoderSample .belt x) s = .next j ∧
         heard (raise .reverse { setClock x.time s with pt.belt := { noted s.pt.belt with state := .tracking } }) j)) ∧
    (reports s.pt.infeed → moved s.pt.infeed < 0 →
      exec (.encoderSample .infeed x) s =
        .next
          (raise .reverse { setClock x.time s with pt.infeed := { noted s.pt.infeed with state := .tracking } })) ∧
    (reports s.pt.belt → moved s.pt.belt < 0 → plain →
      exec (.encoderSample .belt x) s =
        .next (raise .reverse { setClock x.time s with pt.belt := { noted s.pt.belt with state := .tracking } }))

/-- An encoder sample that is neither a jump nor a reverse is applied: the held position is the sample's and the speed
its advance over the stamp's (of an advance of 0, 0: the model's choice, assumption 12). An infeed that moves nothing disturbs nothing
else; the belt's next boundary moves on by 1000 for each boundary reached, one belt advance following each move, and a belt
that reaches none disturbs nothing else but a line coming to rest, which two samples with no advance bring from STOPPING to
STOPPED. The line takes the sample before the advances (the model's choice, assumption 10): at rest, a STOPPING line is STOPPED and one in FAULT with CLEAR
waiting leaves FAULT; on the entry to STOPPED every enabled zone is put to standby with standby-on-stop set, the locks judged once
after them all (the model's choice, assumption 15), and the zones stand with it clear (R71, R73, R78, R80, R98, R171, R174). An infeed that moves hands its event to SC first, the firing position and
then the seam in flight, and then to FS, which takes none in IDLE and STARVED (R79, R139, R147; SC before FS by the model's
choice, assumption 8). -/
def Obligations.AppliedSamplesMoveThePosition : Prop :=
  ∀ (x : Sample) (s : State), sampled x s →
    let applied (r : EncoderRecord) : EncoderRecord :=
      { r with
        state := .tracking, raw := x.value, lastArrival := x.time, held := x.value + r.offset, lastStamp := x.stamp
        speed :=
          if (x.value + r.offset - r.held).toNat = 0 then 0
          else if x.stamp = r.lastStamp then r.speed
          else (x.value + r.offset - r.held).toNat * 100 / (x.stamp - r.lastStamp).toNat }
    let fits (r : EncoderRecord) : Prop :=
      (r.state = .tracking ∨ r.state = .stale) ∧ (x.value + r.offset - r.held).toNat ≤ 8000
    let beyond : Int := (x.value + s.pt.belt.offset - s.pt.nextBoundary).toInt
    (fits s.pt.infeed →
      (∃ t, exec (.encoderSample .infeed x) s = .next t ∧ t.pt = { s.pt with infeed := applied s.pt.infeed } ∧
        cellsStand s t ∧ t.zr = s.zr ∧ t.da = s.da ∧ t.tc = s.tc ∧ t.nm = s.nm ∧ t.px.mem = s.px.mem) ∧
      (x.value + s.pt.infeed.offset = s.pt.infeed.held ∨
          ((s.fs.state = .idle ∨ s.fs.state = .starved) ∧ s.sc.target = none ∧ s.sc.seam = none) →
        exec (.encoderSample .infeed x) s = .next { setClock x.time s with pt.infeed := applied s.pt.infeed }) ∧
      (let held := x.value + s.pt.infeed.offset
       let taken := testSeam held (fireIfReached { setClock x.time s with pt.infeed := applied s.pt.infeed })
       held ≠ s.pt.infeed.held →
         (s.fs.state = .idle ∨ s.fs.state = .starved → exec (.encoderSample .infeed x) s = .next taken) ∧
         (s.fs.state = .forming ∨ s.fs.state = .held → exec (.encoderSample .infeed x) s = .next (foldInfeed held taken)))) ∧
    (fits s.pt.belt →
      (∃ t, exec (.encoderSample .belt x) s = .next t ∧ t.pt.belt = applied s.pt.belt ∧
        t.pt.nextBoundary =
          (if beyond < 0 then s.pt.nextBoundary
            else s.pt.nextBoundary + BitVec.ofNat 32 (1000 * (beyond.toNat / 1000 + 1))) ∧
        t.nm = s.nm ∧ t.da = s.da ∧ t.px.mem = s.px.mem) ∧
      (let advances := if beyond < 0 then 0 else beyond.toNat / 1000 + 1
       let follows (judged : State) : Prop :=
         exec (.encoderSample .belt x) s =
           .next
             (Nat.repeat (fun u => beltAdvance { u with pt.nextBoundary := u.pt.nextBoundary + 1000 }) advances judged)
       let at0 : State := { setClock x.time s with pt.belt := applied s.pt.belt }
       let shows := 0 < (x.value - s.pt.belt.raw).toInt
       (s.lc.line ≠ .stopping → s.lc.line ≠ .fault ∨ s.lc.clearPending = false ∨ shows → follows at0) ∧
         (s.lc.line = .stopping → shows → follows { at0 with lc.restCount := 0 }) ∧
         (s.lc.line = .stopping → ¬shows → s.lc.restCount = 0 → follows { at0 with lc.restCount := 1 }) ∧
         (s.lc.line = .stopping → ¬shows → s.lc.restCount ≠ 0 →
           follows (changeLine .stopped { at0 with lc.restCount := 0 })) ∧
         (s.lc.line = .fault → s.lc.clearPending = true → ¬shows → follows (leaveFault at0))) ∧
      (beyond < 0 → s.lc.line ≠ .stopping → s.lc.clearPending = false →
        exec (.encoderSample .belt x) s = .next { setClock x.time s with pt.belt := applied s.pt.belt }) ∧
      (beyond < 0 → s.lc.line = .stopping →
        (0 < (x.value - s.pt.belt.raw).toInt →
          exec (.encoderSample .belt x) s =
            .next { setClock x.time s with pt.belt := applied s.pt.belt, lc.restCount := 0 }) ∧
        ((x.value - s.pt.belt.raw).toInt ≤ 0 → s.lc.restCount = 0 →
          exec (.encoderSample .belt x) s =
            .next { setClock x.time s with pt.belt := applied s.pt.belt, lc.restCount := 1 }) ∧
        ((x.value - s.pt.belt.raw).toInt ≤ 0 → s.lc.restCount = 1 →
          ∃ t, exec (.encoderSample .belt x) s = .next t ∧ t.lc = { s.lc with line := .stopped, restCount := 0 } ∧
            t.sg.belt = 0 ∧ standbyTaken s t))) ∧
    (s.lc.line = .stopping ∨ s.lc.line = .fault → standbyTaken s (changeLine .stopped s)) ∧
    (s.lc.line = .fault → standbyTaken s (leaveFault s))

/-- ENCODER_STALE, SPLICE_TIMEOUT and CUT_TIMEOUT: 200 ms after the later of a watched TRACKING record's last arrival
and the watch's start, 2000 ms after a firing and 5000 ms after CUTTING or INDEXING was entered, and once each, the line
faults with the timer's cause, the record STALE and everything else of the station standing; a timer not due changes
nothing but the clock reading, and in STOPPED no encoder timer is due (R76, R141, R161, R173; the model's choices,
assumptions 4 and 47). -/
def Obligations.TimersFaultTheLine : Prop :=
  ∀ (time : Clock) (s : State), s.rp.inReset = false →
    let watched := s.lc.line = .running ∨ s.lc.line = .hold ∨ s.lc.line = .stopping
    let stale (r : EncoderRecord) : Prop :=
      r.state = .tracking ∧ watched ∧ 200 ≤ (time - r.lastArrival).toNat ∧ 200 ≤ (time - r.watchStart).toNat
    let spliceLate := s.sc.state = .firing ∧ s.sc.timeoutTaken = false ∧ ∃ t0, s.sc.firing = some t0 ∧ 2000 ≤ (time - t0).toNat
    let cutLate := (s.tc.winder = .cutting ∨ s.tc.winder = .indexing) ∧ s.tc.timeoutTaken = false ∧
      ∃ t0, s.tc.stateTime = some t0 ∧ 5000 ≤ (time - t0).toNat
    (stale s.pt.infeed →
      ∃ t, exec (.encoderStale .infeed time) s = .next t ∧
        faultsLine .encoderStale { setClock time s with pt.infeed := { s.pt.infeed with state := .stale } } t) ∧
    (stale s.pt.belt →
      ∃ t, exec (.encoderStale .belt time) s = .next t ∧
        faultsLine .encoderStale { setClock time s with pt.belt := { s.pt.belt with state := .stale } } t) ∧
    (¬stale s.pt.infeed → exec (.encoderStale .infeed time) s = .next (setClock time s)) ∧
    (¬stale s.pt.belt → exec (.encoderStale .belt time) s = .next (setClock time s)) ∧
    (spliceLate →
      ∃ t, exec (.spliceTimeout time) s = .next t ∧
        faultsLine .spliceTimeout { setClock time s with sc.timeoutTaken := true } t) ∧
    (¬spliceLate → exec (.spliceTimeout time) s = .next (setClock time s)) ∧
    (cutLate →
      ∃ t, exec (.cutTimeout time) s = .next t ∧
        faultsLine .cutTimeout { setClock time s with tc.timeoutTaken := true } t) ∧
    (¬cutLate → exec (.cutTimeout time) s = .next (setClock time s))

/-! ### Unwinds, splicer and take-up -/

/-- A status or diameter sample of an unwind. A status VALUE other than EMPTY (0) and LOADED (1) is discarded, and while
SC is FIRING a report is recorded only. Otherwise the unwind's state changes by the table of R130 and nothing else of
the two records does; the ACTIVE roll that reports EMPTY leaves the splicer IDLE and, with the line not at rest, faults
the line (with the line STOPPED it does not: assumption 47). The diameter recorded last stands through a change of state, a
new roll's too (the model's choice, assumption 50). A change that leaves no ACTIVE unwind or no standby leaves the splicer
IDLE with no target; one that leaves both makes an IDLE or READY splicer READY above the splice diameter, and at or below it
ARMED, with the seam attached again and the search, and leaves an ARMED or WINDOW one as it is. A diameter is limited to
0..2000 and recorded; of an unwind not ACTIVE it changes nothing else; at or below the
forced diameter with no standby it raises UNWIND_LOW; with one, an ARMED splicer with no seam in flight, and one in WINDOW
whose target is not forced and lies beyond S_min, takes S_min, forced, and fires at once when its firing position is reached
(that by the model's choice, assumption 59) (R129, R130, R131, R132, R133, R137, R138). -/
def Obligations.UnwindSamplesFollowTheTable : Prop :=
  ∀ (u : Unwind) (x : Sample) (s : State), sampled x s →
    let old := unwindOf u s.sc
    let other := unwindOf (otherUnwind u) s.sc
    let report : UnwindReport := if x.value = 1 then .loaded else .empty
    let new : UnwindState :=
      if x.value = 1 then
        (match old.state with
          | .empty | .loaded => if other.state = .active then .loaded else .active
          | .active => .active
          | .expired => .expired)
      else .empty
    let faults := old.state = .active ∧ x.value = 0 ∧
      (s.lc.line = .running ∨ s.lc.line = .hold ∨ s.lc.line = .stopping)
    let diameter := min x.value.toInt.toNat 2000
    (1 < x.value.toNat → exec (.unwindStatusSample u x) s = .next (setClock x.time s)) ∧
    (x.value.toNat ≤ 1 → s.sc.state = .firing ∨ new = old.state →
      exec (.unwindStatusSample u x) s =
        .next (modifyUnwind u (fun _ => { old with lastStatus := some report }) (setClock x.time s))) ∧
    (x.value.toNat ≤ 1 → s.sc.state ≠ .firing →
      ∃ t, exec (.unwindStatusSample u x) s = .next t ∧
        unwindOf u t.sc = { old with state := new, lastStatus := some report } ∧
        unwindOf (otherUnwind u) t.sc = other ∧
        (new ≠ old.state → old.state = .active → t.sc.state = .idle ∧ t.sc.target = none) ∧
        (new ≠ old.state →
          let pair := (new = .active ∧ other.state = .loaded) ∨ (new = .loaded ∧ other.state = .active)
          let changed := modifyUnwind u (fun _ => { old with state := new, lastStatus := some report }) (setClock x.time s)
          let low := ∃ d, (if new = .active then old.diameter else other.diameter) = some d ∧ d ≤ s.lc.record.spliceDiameter
          let early := s.sc.state = .idle ∨ s.sc.state = .ready
          let armed : State := { changed with sc.state := .armed, sc.target := none }
          (¬pair → t.sc.state = .idle ∧ t.sc.target = none ∧
            (¬faults → t = { changed with sc.state := .idle, sc.target := none })) ∧
          (pair → early → ¬low → t = { changed with sc.state := .ready, sc.target := none }) ∧
          (pair → early → low →
            t = runSearch (attachSeam armed) ∧
              ((attachSeam armed).sc.seam.isSome = true → t.sc.state = .armed ∧ t.sc.target = none) ∧
              (s.sc.seam = none →
                t =
                  fireIfReached
                    { armed with
                      sc.target := searchTarget armed
                      sc.state := if (searchTarget armed).isSome = true then .window else .armed })) ∧
          (pair → s.sc.state = .armed ∨ s.sc.state = .window → t = changed)) ∧
        (faults →
          flagHeld .lineFault t = true ∧ t.sg.belt = 0 ∧
            t.lc =
              { s.lc with
                line := .fault, cause := some .unwindEmpty, further := 0, clearPending := false, restCount := 0 }) ∧
        (¬faults → t.lc = s.lc) ∧ t.pt = s.pt ∧ t.fs.cursor = s.fs.cursor ∧ t.zr = s.zr ∧ t.da = s.da ∧ t.tc = s.tc ∧
        t.nm = s.nm ∧ t.px = s.px) ∧
    (old.state ≠ .active →
      exec (.unwindDiameterSample u x) s =
        .next (modifyUnwind u (fun _ => { old with diameter := some diameter }) (setClock x.time s))) ∧
    (old.state = .active → other.state = .loaded →
      let low := s.pt.infeed.held + BitVec.ofNat 32 s.lc.record.spliceDistance + BitVec.ofNat 32 s.lc.record.reactionMargin
      let recorded := modifyUnwind u (fun _ => { old with diameter := some diameter }) (setClock x.time s)
      let forces :=
        exec (.unwindDiameterSample u x) s =
          .next
            (fireIfReached
              { recorded with
                sc.state := .window
                sc.target :=
                  some { seam := low, fire := low - BitVec.ofNat 32 s.lc.record.spliceDistance, forced := true } })
      let stands := exec (.unwindDiameterSample u x) s = .next recorded
      (s.sc.state = .armed → diameter ≤ s.lc.record.forcedDiameter → s.sc.seam = none → forces) ∧
        (s.sc.state = .armed → s.lc.record.forcedDiameter < diameter ∨ s.sc.seam.isSome = true → stands) ∧
        ∀ target, s.sc.state = .window → s.sc.target = some target →
          (diameter ≤ s.lc.record.forcedDiameter → target.forced = false → (low - target.seam).toInt < 0 → forces) ∧
            (s.lc.record.forcedDiameter < diameter ∨ target.forced = true ∨ 0 ≤ (low - target.seam).toInt → stands)) ∧
    (old.state = .active → other.state ≠ .active →
      ∃ t, exec (.unwindDiameterSample u x) s = .next t ∧ unwindOf u t.sc = { old with diameter := some diameter } ∧
        unwindOf (otherUnwind u) t.sc = other ∧
        (diameter ≤ s.lc.record.forcedDiameter → other.state ≠ .loaded → s.sc.state ≠ .firing →
          flagHeld .unwindLow t = true) ∧
        (other.state ≠ .loaded → s.sc.state ≠ .firing → t.sc.state = .idle ∧ t.sc.target = none) ∧
        (other.state = .loaded → s.sc.state = .idle ∨ s.sc.state = .ready →
          (s.lc.record.spliceDiameter < diameter → t.sc.state = .ready ∧ t.sc.target = none) ∧
            (diameter ≤ s.lc.record.spliceDiameter →
              t.sc.state = .armed ∨ t.sc.state = .window ∨ t.sc.state = .firing)) ∧
        (s.sc.state = .firing → t.sc.state = .firing) ∧ t.lc = s.lc ∧ t.pt = s.pt ∧ t.fs.cursor = s.fs.cursor ∧
        t.zr = s.zr ∧ t.da = s.da ∧ t.tc = s.tc ∧ t.nm = s.nm ∧ t.px = s.px)

/-- A splicer status sample: a VALUE above 2 is discarded; READY, BUSY, and DONE outside FIRING are recorded only. DONE
in FIRING makes the standby ACTIVE and the ACTIVE unwind EXPIRED, each with the diameter it had (the model's choice,
assumption 50), raises SPLICE_DONE, and leaves the splicer IDLE with
the seam in flight untouched (R140). The coverage is the piece in hand and the ADMITTED pieces end to end, and there is none
in IDLE and STARVED; in a run-out it is the SHORT piece, laid out as its plan up to where it was ended, the rest of a fold it
was ended in, and the run-out, and the ADMITTED pieces from the run-out's end (R134, R148). A position is safe where it lies a seam margin inside both ends of a stretch of items between
folds (a fold of length 0 among them by the model's choice, assumption 20) (R135). A seam's belt offset counts the items before
it whole, a land by its spacing and a fold not at all, the part of its own item, and the fabric of folds lost before it; in a
run-out it is taken from the piece's end (R144, R146, R148). A search takes the earliest safe position from S_min on within the horizon; beyond
the horizon, or with none safe, it forces S_min if the coverage reaches beyond the horizon and else finds no target; at or
below the forced diameter it forces S_min (R136, R137; in a search run in WINDOW by the model's choice, assumption 45). In
WINDOW, with the firing position reached, SC places SPLICE with the standby, enters FIRING at the clock reading and attaches
the seam: into the piece of the coverage that contains it, flagged SPLICE_FORCED when it is not safe there, its cells
marked SEAM; a piece that holds a seam keeps it and is flagged; else the seam stays unattached (R139, R143, R145). A seam
the infeed reaches is laid if attached and marked reached if not, and one reached in no piece is dropped (R147). -/
def Obligations.DoneCompletesTheSplice : Prop :=
  (∀ (x : Sample) (s : State), sampled x s →
    (2 < x.value.toNat → exec (.splicerStatusSample x) s = .next (setClock x.time s)) ∧
    (x.value = 0 →
      exec (.splicerStatusSample x) s = .next { setClock x.time s with sc.lastStatus := some .ready }) ∧
    (x.value = 1 →
      exec (.splicerStatusSample x) s = .next { setClock x.time s with sc.lastStatus := some .busy }) ∧
    (x.value = 2 → s.sc.state ≠ .firing →
      exec (.splicerStatusSample x) s = .next { setClock x.time s with sc.lastStatus := some .done }) ∧
    (∀ u, x.value = 2 → s.sc.state = .firing → standbyUnwind s.sc = some u →
      ∃ t, exec (.splicerStatusSample x) s = .next t ∧
        unwindOf u t.sc = { unwindOf u s.sc with state := .active } ∧
        unwindOf (otherUnwind u) t.sc = { unwindOf (otherUnwind u) s.sc with state := .expired } ∧
        flagHeld .spliceDone t = true ∧ t.sc.state = .idle ∧ t.sc.target = none ∧ t.sc.firing = none ∧
        t.sc.seam = s.sc.seam ∧ t.sc.lastStatus = some .done ∧ t.lc = s.lc ∧ t.sg = s.sg ∧ t.act = s.act ∧ t.pq = s.pq ∧
        t.cl = s.cl ∧ t.pt = s.pt ∧ t.fs = s.fs ∧ t.zr = s.zr ∧ t.da = s.da ∧ t.tc = s.tc ∧ t.nm = s.nm ∧ t.px = s.px)) ∧
  (∀ s : State,
    let waiting := s.pq.pieces.filter fun p => decide (p.state = .admitted)
    let draws := s.fs.state = .forming ∨ s.fs.state = .held
    (¬draws → coverage s = []) ∧
      ∀ id p start stop, draws → s.fs.cursor.piece = some id → findPiece id s = some p → p.span = some (start, stop) →
        (coverage s).length = waiting.length + 1 ∧
          (∃ c, (coverage s)[0]? = some c ∧ c.id = p.id ∧ c.start = start ∧ c.stop = stop ∧
            (p.cut = none → c.items = planItems p.plan)) ∧
          ∀ k w, waiting[k]? = some w →
            let from1 := stop + BitVec.ofNat 32 ((waiting.take k).map fun q => q.plan.infeed).sum
            (coverage s)[k + 1]? =
              some
                { id := w.id, start := from1, stop := from1 + BitVec.ofNat 32 w.plan.infeed, items := planItems w.plan }) ∧
  (∀ s : State, s.fs.state = .forming ∨ s.fs.state = .held → s.fs.cursor.piece = none →
    let waiting := s.pq.pieces.filter fun p => decide (p.state = .admitted)
    let stop := s.fs.cursor.boundary
    let runsOut (p : Piece) : Prop := p.state = .formed ∧ p.flags.short = true ∧ p.span.map Prod.snd = some stop
    let goesOn (first : Nat) : Prop :=
      (coverage s).length = first + waiting.length ∧
        ∀ k w, waiting[k]? = some w →
          let from1 := stop + BitVec.ofNat 32 ((waiting.take k).map fun q => q.plan.infeed).sum
          (coverage s)[first + k]? =
            some { id := w.id, start := from1, stop := from1 + BitVec.ofNat 32 w.plan.infeed, items := planItems w.plan }
    ((∀ p ∈ s.pq.pieces, ¬runsOut p) → goesOn 0) ∧
      ∀ before p after start, s.pq.pieces = before ++ p :: after → runsOut p → (∀ q ∈ after, ¬runsOut q) →
        p.span = some (start, stop) →
        (coverage s)[0]? = some { id := p.id, start := start, stop := stop, items := pieceItems p } ∧ goesOn 1) ∧
  (∀ p : Piece,
    (p.cut = none → pieceItems p = planItems p.plan) ∧
      ∀ ended rest start stop, p.cut = some (ended, rest) → p.span = some (start, stop) →
        let n := (ended - start).toNat
        let size (items : List PlanItem) : Nat := (items.map PlanItem.length).sum
        let left := (stop - (ended + BitVec.ofNat 32 rest)).toNat
        let runOut : List PlanItem := if left = 0 then [] else [flatItem .runOut 0 0 left]
        (size (planItems p.plan) ≤ n → pieceItems p = planItems p.plan ++ runOut) ∧
          ∀ before it after, planItems p.plan = before ++ it :: after → size before ≤ n → n < size before + it.length →
            (it.kind = .fold → pieceItems p = before ++ it :: runOut) ∧
              (it.kind ≠ .fold → n = size before → pieceItems p = before ++ runOut) ∧
              (it.kind ≠ .fold → size before < n →
                ∃ part : PlanItem, part.kind = it.kind ∧ part.length = n - size before ∧
                  (it.kind = .land → part.spacing = n - size before) ∧ pieceItems p = before ++ part :: runOut)) ∧
  (∀ (c : Cover) (margin : Nat) (x : Position),
    let n := (x - c.start).toNat
    let size (items : List PlanItem) : Nat := (items.map PlanItem.length).sum
    safeIn c margin x = true ↔
      n < (c.stop - c.start).toNat ∧
        ∃ before stretch after, c.items = before ++ stretch ++ after ∧ (∀ i ∈ stretch, i.kind ≠ .fold) ∧
          (∀ i ∈ before.getLast?, i.kind = .fold) ∧ (∀ i ∈ after.head?, i.kind = .fold) ∧
          2 * margin < size stretch ∧ size before + margin ≤ n ∧ n + margin < size before + size stretch) ∧
  (∀ (p : Piece) (c : Cover) (x : Position) (before after : List PlanItem) (it : PlanItem),
    let n := (x - c.start).toNat
    let size := (before.map PlanItem.length).sum
    let lays (i : PlanItem) : Nat := if i.kind = .fold then 0 else if i.kind = .land then i.spacing else i.length
    c.items = before ++ it :: after → size ≤ n → n < size + it.length →
    (it.kind ≠ .runOut →
      seamOffset p c x =
        (before.map lays).sum + (if it.kind = .fold then 0 else n - size) +
          (p.lost.map fun l => if 0 ≤ (x - l.1).toInt then min l.2 (x - l.1).toNat else 0).sum) ∧
    (it.kind = .runOut → seamOffset p c x = (p.beltEnd - p.beltStart).toNat - (c.stop - x).toNat)) ∧
  (∀ s : State,
    let low := s.pt.infeed.held + BitVec.ofNat 32 s.lc.record.spliceDistance + BitVec.ofNat 32 s.lc.record.reactionMargin
    let target (x : Position) (forced : Bool) : Option SpliceTarget :=
      some { seam := x, fire := x - BitVec.ofNat 32 s.lc.record.spliceDistance, forced := forced }
    let safe (c : Cover) (x : Position) : Prop := safeIn c s.lc.record.seamMargin x = true ∧ 0 ≤ (x - low).toInt
    let beyond := ∃ c, (coverage s).getLast? = some c ∧
      0 < (c.stop - (low + BitVec.ofNat 32 s.lc.record.spliceHorizon)).toInt
    let given := activeAtOrBelow s.sc s.lc.record.forcedDiameter = false ∧
      ∀ c ∈ coverage s, (c.stop - c.start).toNat < 2 ^ 30 ∧ (c.items.map PlanItem.length).sum = (c.stop - c.start).toNat ∧
        -(2 ^ 30) < (low - c.start).toInt ∧ (low - c.start).toInt < 2 ^ 30
    (activeAtOrBelow s.sc s.lc.record.forcedDiameter = true → searchTarget s = target low true) ∧
      (∀ before c after x, given → coverage s = before ++ c :: after → safe c x →
        (∀ y, safe c y → 0 ≤ (y - x).toInt) → (∀ d ∈ before, ∀ y, ¬safe d y) →
        ((x - low).toNat ≤ s.lc.record.spliceHorizon → searchTarget s = target x false) ∧
          (s.lc.record.spliceHorizon < (x - low).toNat →
            (beyond → searchTarget s = target low true) ∧ (¬beyond → searchTarget s = none))) ∧
      (given → (∀ c ∈ coverage s, ∀ y, ¬safe c y) →
        (beyond → searchTarget s = target low true) ∧ (¬beyond → searchTarget s = none))) ∧
  (∀ (target : SpliceTarget) (s : State), s.sc.state = .window → s.sc.target = some target →
    ((s.pt.infeed.held - target.fire).toInt < 0 → fireIfReached s = s) ∧
    ∀ u, 0 ≤ (s.pt.infeed.held - target.fire).toInt → standbyUnwind s.sc = some u →
      let t := fireIfReached s
      let attached (piece : Option Nat) : Option SeamFlight := some { seam := target.seam, attached := piece, reached := false }
      t.sc.state = .firing ∧ t.sc.target = none ∧ t.sc.firing = some s.clock ∧ t.sc.timeoutTaken = false ∧
        (∃ f ∈ t.act.entries, f.role = .splicer ∧ f.command = .splice u) ∧
        (coverOf target.seam (coverage s) = none → t.sc.seam = attached none ∧ t.pq = s.pq ∧ t.cl = s.cl) ∧
        (∀ c p, coverOf target.seam (coverage s) = some c → findPiece c.id s = some p →
          (p.seam = none →
            let unsafe1 := !safeIn c s.lc.record.seamMargin target.seam
            let offset := seamOffset p c target.seam
            let at0 := p.beltStart + BitVec.ofNat 32 offset
            t.sc.seam = attached (some p.id) ∧
              findPiece p.id t =
                some
                  { p with
                    seam := some { position := target.seam, offset := offset }, flags.spliced := true
                    flags.spliceForced := unsafe1 } ∧
              (unsafe1 = true → p.flags.spliceForced = false → flagHeld .spliceForced t = true) ∧
              t.cl = s.cl.map fun k => if (at0 - k.formed).toNat < 1000 then { k with seam := true } else k) ∧
          (p.seam.isSome = true →
            t.sc.seam = none ∧ findPiece p.id t = some { p with flags.spliceForced := true } ∧
              flagHeld .spliceForced t = true ∧ t.cl = s.cl)) ∧
        (∀ id, coverOf target.seam (coverage s) ≠ none → (∀ c ∈ coverOf target.seam (coverage s), c.id ≠ id) →
          findPiece id t = findPiece id s) ∧
        t.pq.pieces.length = s.pq.pieces.length ∧ t.pt = s.pt ∧ t.fs.cursor = s.fs.cursor ∧ t.lc = s.lc ∧ t.tc = s.tc ∧
        t.zr = s.zr ∧ t.da = s.da) ∧
  ∀ (x : Position) (f : SeamFlight) (s : State), s.sc.seam = some f →
    ((x - f.seam).toInt < 0 → testSeam x s = s) ∧
    (0 ≤ (x - f.seam).toInt →
      (f.attached = none → testSeam x s = { s with sc.seam := some { f with reached := true } }) ∧
      (f.attached.isSome = true →
        (s.sc.state ≠ .armed → testSeam x s = { s with sc.seam := none }) ∧
          (s.sc.state = .armed → testSeam x s = runSearch { s with sc.seam := none }))) ∧
    (f.attached = none → coverOf f.seam (coverage s) = none →
      attachSeam s = { s with sc.seam := if f.reached = true then none else some f })

/-- A take-up sample. A diameter, limited to 0..2000, is recorded and the cut conditions judged. A status VALUE above 3 is
discarded, one not awaited is recorded only. CUT DONE in CUTTING drops the closing manifest, raises CUT_DONE, commands an
INDEX of the new roll and enters INDEXING; INDEXED in INDEXING makes the diameter absent and enters WINDING, or
CUT_PENDING when a held order or a full manifest calls for a cut. The ROLL notice of a manifest is one frame for each 24 ids,
numbered from 1, each with the roll, the number of frames, the whole count of ids, the unlisted count and its own ids; an
empty manifest is one frame with none (R150, R151, R155, R159, R160, R162). -/
def Obligations.TakeUpSamplesMoveTheWinder : Prop :=
  (∀ m : Manifest,
    let frames := max 1 ((m.ids.length + 23) / 24)
    (rollNotice m).length = frames ∧
      ∀ k, k < frames →
        (rollNotice m)[k]? =
          some (.roll m.roll (k + 1) frames m.ids.length m.unlisted ((m.ids.drop (24 * k)).take 24))) ∧
  ∀ (x : Sample) (s : State), sampled x s →
    let d := min x.value.toInt.toNat 2000
    let hard := s.lc.record.hardFull ≠ 0 ∧ s.lc.record.hardFull ≤ d
    let full := (s.lc.record.fullDiameter ≠ 0 ∧ s.lc.record.fullDiameter ≤ d) ∨ 64 ≤ s.tc.current.ids.length
    (exec (.takeUpDiameterSample x) s =
      .next
        { setClock x.time s with
          tc := { s.tc with
            diameter := some d
            winder := if s.tc.winder = .winding ∧ (hard ∨ full) then .cutPending else s.tc.winder
            forced := decide ((s.tc.winder = .winding ∨ s.tc.winder = .cutPending) ∧ hard) || s.tc.forced } }) ∧
    (3 < x.value.toNat → exec (.takeUpStatusSample x) s = .next (setClock x.time s)) ∧
    (∀ r, takeUpReport x.value = some r → ¬(r = .cutDone ∧ s.tc.winder = .cutting) →
      ¬(r = .indexed ∧ s.tc.winder = .indexing) →
      exec (.takeUpStatusSample x) s = .next { setClock x.time s with tc.lastStatus := some r }) ∧
    (x.value = 2 → s.tc.winder = .cutting →
      ∃ t, exec (.takeUpStatusSample x) s = .next t ∧
        t.tc =
          { s.tc with
            lastStatus := some .cutDone, closing := none, winder := .indexing, stateTime := some x.time
            timeoutTaken := false } ∧
        flagHeld .cutDone t = true ∧
        (∃ e ∈ t.act.entries, e.role = .turret ∧ e.command = .index s.tc.current.roll) ∧
        (∀ m, s.tc.closing = some m → flagHeld .cutDone s = true → s.report.length + (rollNotice m).length ≤ 16 →
          t.report = s.report ++ rollNotice m) ∧
        t.lc = s.lc ∧ t.sg = s.sg ∧ t.pq = s.pq ∧ t.cl = s.cl ∧ t.pt = s.pt ∧ t.fs = s.fs ∧ t.zr = s.zr ∧ t.da = s.da ∧
        t.sc = s.sc ∧ t.nm = s.nm ∧ t.px = s.px) ∧
    (x.value = 3 → s.tc.winder = .indexing →
      exec (.takeUpStatusSample x) s =
        .next
          { setClock x.time s with
            tc := { s.tc with
              lastStatus := some .indexed, diameter := none, heldOrder := false, stateTime := none
              timeoutTaken := false
              winder := if s.tc.heldOrder = true ∨ 64 ≤ s.tc.current.ids.length then .cutPending else .winding } })

/-! ### Folds, cells, retirements and cuts -/

/-- The fabric followed through an item: an applied infeed position short of the item's boundary moves the formed counter
one for one in a lead, a flat pleat, a tail or a run-out and not at all in a land or a fold, and nothing else. An applied
position beyond it takes every boundary reached, one after another (at most two for each
unit the position lies beyond the item's start, and four), and then does the same in the item it lies in. The
boundary of a land is a fold point: the fold after it is sent, the cursor is on the fold, and the ratio is that of the item
after it. At the end of a fold, a lead, a flat pleat or a tail the cursor moves to the next item (a fold's under the ratio
that stands, another's under the next item's unless a flat run goes on), and with none left the piece is FORMED and one is
needed there, as at a run-out's end (R53, R56, R57, R58, R59, R61, R68). The items of a plan: run by run, last to first when
mirrored, the lead, then the pleats, mirrored pleat k being stored pleat n - 1 - k, a land of the spacing and a fold of both
depths, in a flat run one flat pleat of both; the tail last; what has no length is passed over (R23, R51; a lead's and
the tail's pleat 0 by assumption 17). Stored pleat k lies
in the run's direction for KNIFE, for ACCORDION at k even, for BOX at k mod 4 of 0 or 3, else in the opposite one, and mirrored
each is inverted (R52). SC takes the event before FS (assumption 8). A FOLD sent
to a blade slot with room is appended and the formed counter steps by the spacing; at a full slot it is lost: the slot
stands, FOLD_LOST is raised, the formed counter and the FORMING piece's belt end move on by the fold's fabric too, and so
do the belt spans of every ADMITTED piece (R57, R60). A seam record of the FORMING piece at or after the fold point moves on
by the fold's fabric, or by the part of it before the seam, and its cells are marked SEAM; every other seam record and, with
none moved, every cell stands (R146). -/
def Obligations.FoldsAreSentOrLost : Prop :=
  (∀ (x : Sample) (s : State), sampled x s →
    s.pt.infeed.state = .tracking ∨ s.pt.infeed.state = .stale →
    let held := x.value + s.pt.infeed.offset
    let c := s.fs.cursor
    1 ≤ (held - s.pt.infeed.held).toNat → (held - s.pt.infeed.held).toNat ≤ 8000 → s.sc.target = none → s.sc.seam = none →
    s.fs.state = .forming ∨ s.fs.state = .held → 0 ≤ (held - c.itemStart).toInt → (held - c.boundary).toInt < 0 →
    ∃ t, exec (.encoderSample .infeed x) s = .next t ∧ t.pt.infeed.held = held ∧
      t =
        { setClock x.time s with
          pt := t.pt
          fs.formed :=
            if c.item = .land ∨ c.item = .fold then s.fs.formed else c.itemFormed + (held - c.itemStart) }) ∧
  (∀ (x : Sample) (n : Nat) (s : State), sampled x s → s.pt.infeed.state = .tracking ∨ s.pt.infeed.state = .stale →
    let held := x.value + s.pt.infeed.offset
    let moved := (held - s.pt.infeed.held).toNat
    1 ≤ moved → moved ≤ 8000 → s.fs.state = .forming ∨ s.fs.state = .held →
    let at0 : State :=
      { setClock x.time s with
        pt.infeed :=
          { s.pt.infeed with
            state := .tracking, raw := x.value, lastArrival := x.time, held := held, lastStamp := x.stamp
            speed :=
              if x.stamp = s.pt.infeed.lastStamp then s.pt.infeed.speed
              else moved * 100 / (x.stamp - s.pt.infeed.lastStamp).toNat } }
    let handed := testSeam held (fireIfReached at0)
    let reached (k : Nat) : State := Nat.repeat takeBoundary k handed
    let goesOn (u : State) : Prop :=
      (u.fs.state = .forming ∨ u.fs.state = .held) ∧ 0 ≤ (held - u.fs.cursor.boundary).toInt
    n ≤ 2 * (held - s.fs.cursor.itemStart).toNat + 4 → (∀ k, k < n → goesOn (reached k)) → ¬goesOn (reached n) →
    (s.sc.target = none → s.sc.seam = none → handed = at0) ∧
    exec (.encoderSample .infeed x) s =
      .next
        (let u := reached n
         if (u.fs.state = .forming ∨ u.fs.state = .held) ∧ 0 ≤ (held - u.fs.cursor.itemStart).toInt ∧
             u.fs.cursor.item ≠ .land ∧ u.fs.cursor.item ≠ .fold then
           { u with fs.formed := u.fs.cursor.itemFormed + (held - u.fs.cursor.itemStart) }
         else u)) ∧
  (∀ (id : Nat) (p : Piece) (before rest : List PlanItem) (it : PlanItem) (s : State),
    let c := s.fs.cursor
    let place (i : PlanItem) : ItemKind × Nat × Nat := (i.kind, i.run, i.pleat)
    c.piece = some id → findPiece id s = some p → planItems p.plan = before ++ it :: rest →
    place it = (c.item, c.run, c.pleat) → (∀ j ∈ before, place j ≠ place it) →
    let t := takeBoundary s
    let onto (next : PlanItem) (u : State) : State :=
      { u with
        fs.cursor :=
          { piece := some id, item := next.kind, run := next.run, pleat := next.pleat, itemStart := c.boundary
            itemFormed := u.fs.formed, boundary := c.boundary + BitVec.ofNat 32 next.length
            ratio := u.fs.cursor.ratio } }
    let ratioOf (next : PlanItem) : Ratio :=
      if next.kind = .land then .pleat (next.spacing + next.left + next.right) next.spacing else .flat
    let finished (u : State) : State :=
      needPiece c.boundary
        { u with pq.pieces := u.pq.pieces.map fun q => if q.id = id then { q with state := .formed } else q }
    let counted : State := { s with fs.formed := c.itemFormed + (c.boundary - c.itemStart) }
    (it.kind = .land → ∀ fold next more, rest = fold :: next :: more →
      t = setRatio (ratioOf next) (onto fold (sendFold id fold c.boundary s))) ∧
    (it.kind = .land → ∀ fold, rest = [fold] → t = onto fold (sendFold id fold c.boundary s)) ∧
    (it.kind = .fold → (rest = [] → t = finished s) ∧ ∀ next more, rest = next :: more → t = onto next s) ∧
    (it.kind ≠ .land → it.kind ≠ .fold →
      (rest = [] → t = finished counted) ∧
        ∀ next more, rest = next :: more →
          t =
            if it.kind = .flat ∧ next.kind = .flat ∧ next.run = it.run then onto next counted
            else setRatio (ratioOf next) (onto next counted))) ∧
  (∀ p : Plan,
    let opposite (d : Dir) : Dir := if d = .left then .right else .left
    let laid (i : Nat) (r : Run) (k : Nat) : List PlanItem :=
      let q := if p.mirror = true then r.count - 1 - k else k
      let stored : Dir :=
        if (r.kind = .accordion ∧ q % 2 = 1) ∨ (r.kind = .box ∧ (q % 4 = 1 ∨ q % 4 = 2)) then opposite r.dir else r.dir
      let fold : PlanItem :=
        { kind := .fold, run := i, pleat := k, length := leftDepth r q + rightDepth r q, spacing := r.spacing
          left := leftDepth r q, right := rightDepth r q, dir := if p.mirror = true then opposite stored else stored }
      if r.flat = true then
        [{ kind := .flat, run := i, pleat := k, length := r.spacing + (leftDepth r q + rightDepth r q), spacing := 0
           left := 0, right := 0, dir := .left }]
      else [{ fold with kind := .land, length := r.spacing }, fold]
    let plain (kind : ItemKind) (i length : Nat) : List PlanItem :=
      if length = 0 then []
      else [{ kind := kind, run := i, pleat := 0, length := length, spacing := 0, left := 0, right := 0, dir := .left }]
    planItems p =
      ((if p.mirror = true then p.runs.reverse else p.runs).zipIdx.flatMap fun ri =>
          plain .lead ri.2 ri.1.lead ++ (List.range ri.1.count).flatMap (laid ri.2 ri.1)) ++
        plain .tail 0 p.tail) ∧
  (∀ s : State, s.fs.cursor.piece = none →
    takeBoundary s =
      needPiece s.fs.cursor.boundary
        { s with fs.formed := s.fs.cursor.itemFormed + (s.fs.cursor.boundary - s.fs.cursor.itemStart) }) ∧
  ∀ (id : Nat) (it : PlanItem) (f : Position) (s : State),
    (bladeCount s.act < 4 →
      sendFold id it f s =
        { s with
          fs.formed := s.fs.formed + BitVec.ofNat 32 it.spacing
          act :=
            { entries := s.act.entries ++
                [{ role := .blade, placement := s.act.next, command := .fold it.left it.right it.dir }]
              next := s.act.next + 1 } }) ∧
    (4 ≤ bladeCount s.act →
      let n := it.left + it.right
      let t := sendFold id it f s
      t.fs.formed = s.fs.formed + BitVec.ofNat 32 (it.spacing + n) ∧ flagHeld .foldLost t = true ∧
        (t.act.entries.filter fun e => decide (e.role = .blade)) = (s.act.entries.filter fun e => decide (e.role = .blade)) ∧
        (t.pq.pieces.map fun p => { p with seam := none }) =
          (s.pq.pieces.map fun p =>
            if p.id = id then
              { p with
                beltEnd := p.beltEnd + BitVec.ofNat 32 n, flags.foldLost := true, lost := p.lost ++ [(f, n)], seam := none }
            else if p.state = .admitted then
              { p with
                beltStart := p.beltStart + BitVec.ofNat 32 n, beltEnd := p.beltEnd + BitVec.ofNat 32 n, seam := none }
            else { p with seam := none }) ∧
        (∀ p r, findPiece id s = some p → p.seam = some r → 0 ≤ (r.position - f).toInt →
          let offset := r.offset + min n (r.position - f).toNat
          (t.pq.pieces.map Piece.seam =
              s.pq.pieces.map fun q => if q.id = id then some { position := r.position, offset := offset } else q.seam) ∧
            t.cl =
              s.cl.map fun k =>
                if (p.beltStart + BitVec.ofNat 32 offset - k.formed).toNat < 1000 then { k with seam := true } else k) ∧
        ((∀ p r, findPiece id s = some p → p.seam = some r → (r.position - f).toInt < 0) →
          t.pq.pieces.map Piece.seam = s.pq.pieces.map Piece.seam ∧ t.cl = s.cl) ∧
        cellsStand s t ∧ t.fs.cursor = s.fs.cursor ∧ t.fs.state = s.fs.state ∧ t.sc = s.sc ∧ t.tc = s.tc ∧ t.lc = s.lc ∧
        t.pt = s.pt ∧ t.zr = s.zr ∧ t.da = s.da)

/-- One belt advance: every cell moves on by one index, the cells at the knife or beyond retire, and a new cell begins at
index 0 at the formed counter, with no dose; the doses of the others stand. The cells retire one by one, the highest index
first, each taken off the list and handed on before the next. The new cell names the piece whose belt span contains it, and
with none is a GAP cell that raises TRACK_GAP; it carries SEAM where a queued piece's seam lies in it. Every cell in a STALE
zone is UNCERTAIN, and the cell that reaches the tunnel's end gives the exit mark its formed position (R81, R82, R83, R84,
R121). -/
def Obligations.BeltAdvancesAgeTheCells : Prop :=
  ∀ s : State, s.cl.Pairwise (fun a b => a.index < b.index) →
    let t := beltAdvance s
    let place (c : BeltCell) : Nat × Position × Nat × Nat := (c.index, c.formed, c.dose, c.residue)
    t.cl.map place =
        (0, s.fs.formed, 0, 0) ::
          ((s.cl.map fun c => place { c with index := c.index + 1 }).filter fun q => decide (q.1 < s.lc.record.knife)) ∧
      (∀ c ∈ t.cl, ∀ z : Fin 8, s.zr.zones[z].stale = true → s.zr.zones[z].stored.length ≠ 0 →
        s.zr.zones[z].stored.start ≤ c.index → c.index < s.zr.zones[z].stored.start + s.zr.zones[z].stored.length →
        c.uncertain = true) ∧
      (∀ c ∈ s.cl, c.index + 1 = lastZoneEnd s → t.sg.exitMark = some c.formed) ∧
      ((∀ c ∈ s.cl, c.index + 1 ≠ lastZoneEnd s) → t.sg.exitMark = s.sg.exitMark) ∧
      (∀ new ∈ t.cl.head?,
        let contains (p : Piece) : Prop := (s.fs.formed - p.beltStart).toNat < (p.beltEnd - p.beltStart).toNat
        (∀ before p after, t.pq.pieces = before ++ p :: after → contains p → (∀ q ∈ before, ¬contains q) →
          new.piece = some p.id) ∧
        ((∀ p ∈ t.pq.pieces, ¬contains p) → new.piece = none ∧ flagHeld .trackGap t = true) ∧
        (new.seam = true ↔
          ∃ p ∈ t.pq.pieces, ∃ r ∈ p.seam, (p.beltStart + BitVec.ofNat 32 r.offset - s.fs.formed).toNat < 1000)) ∧
      (let aged : State := { s with cl := s.cl.map fun c => { c with index := c.index + 1 } }
       (∃ u, u = retireCells s.cl.length aged ∧ t = markStaleZones (governAdvance (exitCell aged) (createCell u))) ∧
         ∀ (u : State) (newer : List BeltCell) (c : BeltCell), u.cl = newer ++ [c] →
           (u.lc.record.knife ≤ c.index →
             retireCells (newer.length + 1) u = retireCells newer.length (retireCell c { u with cl := newer })) ∧
           (c.index < u.lc.record.knife → retireCells (newer.length + 1) u = u)) ∧
      t.fs.formed = s.fs.formed ∧ t.pt = s.pt ∧ t.zr = s.zr ∧ t.da = s.da ∧ t.lc.record = s.lc.record ∧ t.nm = s.nm ∧
      t.px.mem = s.px.mem

/-- A retiring cell of a panel piece is judged, OVER before UNDER before UNCERTAIN, against its class, with the splice
surplus when it carries SEAM; its dose widens the piece's range and its verdict makes the piece's the worse of the two,
and OVER and UNDER raise their flags. A filler piece's range widens unjudged, and a cell that names no piece writes nothing
(R115, R116, R117). A retired cell is handed to DA, then to TC, then to PQ, which completes every FORMED piece at the head
whose belt end the cell's interval reaches, testing each new head in turn, after all that the removal before it brought (the
model's choice, assumption 55):
its PIECE notice is queued, UNCERTAIN for a panel piece of which no cell retired, its record leaves, and the cells that
still name it name none, with TRACK_GAP; with room gained SG recomputes, the admission check runs and a starved FS is told
(R43, R44, R84, R85, R119; the order of TRACK_GAP, the recompute and the check by the model's choice, assumption 49). -/
def Obligations.RetiredCellsAreJudged : Prop :=
  (∀ (c : BeltCell) (s : State),
    (c.piece = none → doseRetire c s = s) ∧
    ∀ (id : Nat) (p : Piece), c.piece = some id → findPiece id s = some p →
      let t := doseRetire c s
      let k := s.da.classes[p.plan.cls]
      let required := if c.seam then k.dmin * (1000 + k.splice) / 1000 else k.dmin
      let v : Verdict :=
        if k.dmax < c.dose then .over else if c.dose < required then .under
        else if c.uncertain then .uncertain else .good
      let doses := match p.doses with
        | none => some (c.dose, c.dose)
        | some (low, high) => some (min low c.dose, max high c.dose)
      t = { s with pq.pieces := t.pq.pieces, mu.flags := t.mu.flags, report := t.report } ∧
        (∀ other, other ≠ id → findPiece other t = findPiece other s) ∧
        (p.slot = none → findPiece id t = some { p with doses := doses } ∧ t.mu = s.mu ∧ t.report = s.report) ∧
        (p.slot.isSome = true → p.verdict ≠ .filler →
          findPiece id t =
              some
                { p with
                  doses := doses
                  verdict :=
                    if v = .over ∨ p.verdict = .over then .over else if v = .under ∨ p.verdict = .under then .under
                    else if v = .uncertain ∨ p.verdict = .uncertain then .uncertain else .good } ∧
            (v = .over → flagHeld .doseOver t = true) ∧ (v = .under → flagHeld .doseUnder t = true) ∧
            (v = .good ∨ v = .uncertain → t.mu = s.mu ∧ t.report = s.report))) ∧
  (∀ (p : Piece) (rest : List Piece) (s : State), s.pq.pieces = p :: rest →
    let verdict : Verdict := if p.slot.isSome = true ∧ p.doses = none then .uncertain else p.verdict
    let noticed := placeReport (.piece p.id p.slot verdict p.doses p.flags (p.seam.map SeamRecord.offset)) s
    let forgotten : State :=
      { noticed with
        pq.pieces := rest
        cl := s.cl.map fun c => if c.piece = some p.id then { c with piece := none } else c }
    let gap := ∃ c ∈ s.cl, c.piece = some p.id
    let room := recompute (if gap then raise .trackGap forgotten else forgotten)
    removeHead p s = toldOfRoom (admissionCheck room) ∧
      (s.lc.record.continuous = false → s.fs.state ≠ .starved → removeHead p s = room) ∧
      (gap → flagHeld .trackGap (removeHead p s) = true) ∧
      (removeHead p s).cl.map (fun c => { c with seam := false }) =
        s.cl.map fun c => { c with seam := false, piece := if c.piece = some p.id then none else c.piece }) ∧
  (∀ (c : BeltCell) (s : State),
    let taken := takeUpRetire c.piece (doseRetire c s)
    let test (u : State) : State := testHead u.pq.pieces.length c.formed u
    let complete (p : Piece) : Prop := p.state = .formed ∧ 0 ≤ (c.formed + 1000 - p.beltEnd).toInt
    retireCell c s = test taken ∧
      (∀ p rest, s.pq.pieces = p :: rest → complete p → test s = test (removeHead p s)) ∧
      ((∀ p ∈ s.pq.pieces.head?, ¬complete p) → test s = s)) ∧
  ∀ (c : BeltCell) (s : State), s.lc.record.continuous = false → s.fs.state ≠ .starved →
    (retireCell c s).pq.pieces.map Piece.id =
      (s.pq.pieces.dropWhile fun p => decide (p.state = .formed) && decide (0 ≤ (c.formed + 1000 - p.beltEnd).toInt)).map
        Piece.id

/-- A retirement at the take-up. At a piece boundary a waiting cut is fired: CUT carries the roll wound, its manifest is
set aside, and the next roll opens with the piece. A roll marked forced is cut through the piece, which closes one
manifest and opens the next. With no cut waiting, and none called for by an order, a boundary lists the piece, or counts
it when 64 are listed. The last order becomes that of a panel piece listed at a boundary, and stands otherwise. Where no cut
is fired the two diameters and the count are judged last: a WINDING winder becomes CUT_PENDING by any of them, forced by
hard-full, which forces a CUT_PENDING one too; off a boundary nothing else changes but by a forced cut (R153, R154,
R155, R156, R157, R158; the three judged together, assumption 46). -/
def Obligations.CutsFallAtBoundaries : Prop :=
  ∀ (piece : Option Nat) (s : State),
    let t := takeUpRetire piece s
    let boundary := piece = none ∨ piece ≠ s.tc.currentPiece
    let nextRoll := if 65535 ≤ s.tc.current.roll then 1 else s.tc.current.roll + 1
    let cut (ids : List Nat) : Prop :=
      t.tc.closing = some s.tc.current ∧ t.tc.current = { roll := nextRoll, ids := ids, unlisted := 0 } ∧
        t.tc.winder = .cutting ∧ t.tc.stateTime = some s.clock ∧ t.tc.forced = false ∧ t.tc.heldOrder = false ∧
        t.tc.timeoutTaken = false ∧ ∃ e ∈ t.act.entries, e.role = .knife ∧ e.command = .cut s.tc.current.roll
    let newOrder := ∃ id p, piece = some id ∧ findPiece id s = some p ∧ p.slot.isSome = true ∧
      s.lc.record.perOrder = true ∧ s.tc.lastOrder.isSome = true ∧ s.tc.lastOrder ≠ p.slot.map fun i => (i, p.load)
    let listed : Manifest :=
      match piece with
      | none => s.tc.current
      | some id =>
        if s.tc.current.ids.length < 64 then { s.tc.current with ids := s.tc.current.ids ++ [id] }
        else { s.tc.current with unlisted := s.tc.current.unlisted + 1 }
    let reaches (limit : Nat) : Prop := limit ≠ 0 ∧ ∃ d, s.tc.diameter = some d ∧ limit ≤ d
    let calls (m : Manifest) : Prop :=
      reaches s.lc.record.hardFull ∨ reaches s.lc.record.fullDiameter ∨ 64 ≤ m.ids.length
    t.tc.currentPiece = piece ∧
      (¬boundary → (s.tc.winder = .cutPending → s.tc.forced = false) →
        ∃ (winder : WinderState) (forced : Bool),
          t = { s with tc := { s.tc with winder := winder, forced := forced } } ∧
            (s.tc.winder = .winding → calls s.tc.current → winder = .cutPending) ∧
            (s.tc.winder = .winding → ¬calls s.tc.current → winder = .winding) ∧
            (s.tc.winder ≠ .winding → winder = s.tc.winder) ∧
            (forced = true ↔
              s.tc.forced = true ∨
                ((s.tc.winder = .winding ∨ s.tc.winder = .cutPending) ∧ reaches s.lc.record.hardFull))) ∧
      (boundary → s.tc.winder = .winding → ¬newOrder →
        (calls listed → t.tc.winder = .cutPending) ∧ (¬calls listed → t.tc.winder = .winding) ∧
          (t.tc.forced = true ↔ s.tc.forced = true ∨ reaches s.lc.record.hardFull) ∧
          t.tc.heldOrder = s.tc.heldOrder ∧ t.tc.stateTime = s.tc.stateTime ∧ t.pq = s.pq) ∧
      (boundary → s.tc.winder = .cutting ∨ s.tc.winder = .indexing →
        t.tc.forced = s.tc.forced ∧ t.tc.stateTime = s.tc.stateTime ∧ t.tc.timeoutTaken = s.tc.timeoutTaken ∧
          (¬newOrder → t.tc.heldOrder = s.tc.heldOrder) ∧ t.pq = s.pq) ∧
      t.tc.diameter = s.tc.diameter ∧ t.tc.lastStatus = s.tc.lastStatus ∧
      (¬boundary → t.tc.lastOrder = s.tc.lastOrder) ∧
      (∀ id p i, boundary → piece = some id → findPiece id s = some p → p.slot = some i →
        t.tc.lastOrder = some (i, p.load)) ∧
      ((∀ id p, piece = some id → findPiece id s = some p → p.slot = none) → t.tc.lastOrder = s.tc.lastOrder) ∧
      (boundary → s.tc.winder = .cutPending → cut piece.toList) ∧
      (boundary → s.tc.winder = .winding → newOrder → cut piece.toList) ∧
      (∀ id, ¬boundary → piece = some id → s.tc.winder = .cutPending → s.tc.forced = true →
        cut [id] ∧ flagHeld .cutForced t = true ∧
          ∀ p ∈ t.pq.pieces, p.id = id → p.flags.cutForced = true ∧ p.flags.split = true) ∧
      (¬boundary → s.tc.winder = .cutPending → s.tc.forced = false →
        t.tc.current = s.tc.current ∧ t.tc.closing = s.tc.closing ∧ t.tc.winder = .cutPending ∧ t.act = s.act) ∧
      (boundary → s.tc.winder = .winding → ¬newOrder →
        t.tc.current = listed ∧ t.tc.closing = s.tc.closing ∧ t.act = s.act ∧ (64 ≤ listed.ids.length → t.tc.winder = .cutPending) ∧
          (listed.ids.length < 64 → s.tc.diameter = none → t.tc.winder = .winding)) ∧
      (boundary → s.tc.winder = .cutting ∨ s.tc.winder = .indexing →
        t.tc.current = listed ∧ t.tc.closing = s.tc.closing ∧ t.tc.winder = s.tc.winder ∧ t.act = s.act ∧
          (newOrder → t.tc.heldOrder = true)) ∧
      t.cl = s.cl ∧ t.fs = s.fs ∧ t.sg = s.sg ∧ t.sc = s.sc ∧ t.lc = s.lc ∧ t.pt = s.pt ∧ t.zr = s.zr ∧ t.da = s.da ∧
      t.pq.slots = s.pq.slots ∧ t.pq.runList = s.pq.runList

/-! ### Conditions that every step keeps -/

/-- The state after hard reset meets every condition below (R1, R72, R87, R118, R129, R152, R165, R166, R183, R193). -/
def Obligations.ResetMeetsEveryCondition : Prop :=
  writesInBounds State.reset ∧ queuesInBounds State.reset ∧ beltByTable State.reset ∧ oneActiveUnwind State.reset ∧
    splicerConsistent State.reset ∧ nodeMapDistinct State.reset ∧ lookasideDistinct State.reset ∧
    runListInOrder State.reset ∧ pieceIdsDistinct State.reset ∧ sequencerConsistent State.reset ∧
    cellsInOrder State.reset ∧ valvesLimited State.reset ∧ takeUpConsistent State.reset ∧ lineConsistent State.reset ∧
    locksJudged State.reset ∧ fillerInRange State.reset

/-- No step takes pattern memory out of its canonical form or an open write out of its table, nor fills a buffer beyond
its limit, nor lets two ACT frames of one slot other than the blade's wait, nor disturbs their order (R60, R181, R187,
R190, R197, R199). -/
def Obligations.BuffersAndWritesStayInBounds : Prop :=
  (∀ s t : State, writesInBounds s → step s = .next t → writesInBounds t) ∧
    ∀ s t : State, queuesInBounds s → step s = .next t → queuesInBounds t

/-- After every step the belt command is the one the line state, the setpoint, the limits and the crawl speed give
(R119, R125). -/
def Obligations.BeltCommandKeepsItsTable : Prop := ∀ s t : State, beltByTable s → step s = .next t → beltByTable t

/-- No step makes both unwinds ACTIVE, or leaves the splicer in a state its target, its firing time or the standby does
not bear out (R129, R132, R136, R139). -/
def Obligations.SplicerStaysConsistent : Prop :=
  ∀ s t : State, oneActiveUnwind s ∧ splicerConsistent s → step s = .next t → oneActiveUnwind t ∧ splicerConsistent t

/-- No step makes two valid node map entries share a role or a pair, or two valid lookaside entries share an index
(R4, R6, R183, R184). -/
def Obligations.MapAndLookasideStayDistinct : Prop :=
  (∀ s t : State, nodeMapDistinct s → step s = .next t → nodeMapDistinct t) ∧
    ∀ s t : State, lookasideDistinct s → step s = .next t → lookasideDistinct t

/-- No step takes the run list out of its order, or gives two queued pieces one id (R28, R32, R38, R39). -/
def Obligations.RunListAndQueueStayInOrder : Prop :=
  (∀ s t : State, runListInOrder s → step s = .next t → runListInOrder t) ∧
    ∀ s t : State, pieceIdsDistinct s → step s = .next t → pieceIdsDistinct t

/-- No step takes the cells out of order or their doses out of range, opens a valve beyond its zone's valve max, or leaves
the lock of a pair of zones engaged where its conditions fail, or not engaged where they hold (R81, R101, R102, R103, R104,
R114). -/
def Obligations.CellsAndValvesStayInRange : Prop :=
  (∀ s t : State, cellsInOrder s → step s = .next t → cellsInOrder t) ∧
    (∀ s t : State, valvesLimited s → step s = .next t → valvesLimited t) ∧
    ∀ s t : State, locksJudged s → step s = .next t → locksJudged t

/-- No step leaves the winder without the manifest or the state time it needs, the line with a fault cause outside FAULT or
a filler length out of its range, or the sequencer out of step with HOLD (R61, R63, R64, R152, R154, R159, R160, R166, R171, R173, R174, R176). -/
def Obligations.WinderLineAndSequencerStayConsistent : Prop :=
  (∀ s t : State, takeUpConsistent s → step s = .next t → takeUpConsistent t) ∧
    (∀ s t : State, lineConsistent s → step s = .next t → lineConsistent t) ∧
    (∀ s t : State, fillerInRange s → step s = .next t → fillerInRange t) ∧
    ∀ s t : State, sequencerConsistent s → step s = .next t → sequencerConsistent t
end

