-- ==== Sys2Proof/Laws/Frames1.lean ====
section
/-! SUPPORT. What each shared operation leaves unchanged, once for each: flags, the ACT queue, the governor and the splice controller. -/
namespace Sys2Proof.Machine

/-- What `setFlag` leaves unchanged. -/
@[simp] theorem setFlag_frame (f : Flag) (s : State) :
    (setFlag f s).pending = s.pending ∧ (setFlag f s).clock = s.clock ∧ (setFlag f s).rp = s.rp ∧
    (setFlag f s).act = s.act ∧ (setFlag f s).report = s.report ∧ (setFlag f s).nm = s.nm ∧
    (setFlag f s).mu.openWrite = s.mu.openWrite ∧ (setFlag f s).px = s.px ∧ (setFlag f s).pq = s.pq ∧
    (setFlag f s).fs = s.fs ∧ (setFlag f s).pt = s.pt ∧ (setFlag f s).cl = s.cl ∧ (setFlag f s).zr = s.zr ∧
    (setFlag f s).da = s.da ∧ (setFlag f s).sg = s.sg ∧ (setFlag f s).sc = s.sc ∧ (setFlag f s).tc = s.tc ∧
    (setFlag f s).lc = s.lc := by
  unfold setFlag
  try dsimp only
  (repeat' split) <;> simp

/-- What `pushReport` leaves unchanged. -/
@[simp] theorem pushReport_frame (r : Report) (s : State) :
    (pushReport r s).pending = s.pending ∧ (pushReport r s).clock = s.clock ∧ (pushReport r s).rp = s.rp ∧
    (pushReport r s).act = s.act ∧ (pushReport r s).nm = s.nm ∧ (pushReport r s).mu = s.mu ∧
    (pushReport r s).px = s.px ∧ (pushReport r s).pq = s.pq ∧ (pushReport r s).fs = s.fs ∧
    (pushReport r s).pt = s.pt ∧ (pushReport r s).cl = s.cl ∧ (pushReport r s).zr = s.zr ∧
    (pushReport r s).da = s.da ∧ (pushReport r s).sg = s.sg ∧ (pushReport r s).sc = s.sc ∧
    (pushReport r s).tc = s.tc ∧ (pushReport r s).lc = s.lc := by
  unfold pushReport
  try dsimp only
  (repeat' split) <;> simp

/-- What `placeReport` leaves unchanged. -/
@[simp] theorem placeReport_frame (r : Report) (s : State) :
    (placeReport r s).pending = s.pending ∧ (placeReport r s).clock = s.clock ∧ (placeReport r s).rp = s.rp ∧
    (placeReport r s).act = s.act ∧ (placeReport r s).nm = s.nm ∧
    (placeReport r s).mu.openWrite = s.mu.openWrite ∧ (placeReport r s).px = s.px ∧
    (placeReport r s).pq = s.pq ∧ (placeReport r s).fs = s.fs ∧ (placeReport r s).pt = s.pt ∧
    (placeReport r s).cl = s.cl ∧ (placeReport r s).zr = s.zr ∧ (placeReport r s).da = s.da ∧
    (placeReport r s).sg = s.sg ∧ (placeReport r s).sc = s.sc ∧ (placeReport r s).tc = s.tc ∧
    (placeReport r s).lc = s.lc := by
  unfold placeReport
  try dsimp only
  (repeat' split) <;> simp

/-- What a run of `placeReport` leaves unchanged. -/
@[simp] theorem foldl_placeReport_frame  (xs : List Report) (s : State) :
    (xs.foldl (fun t r => placeReport r t) s).pending = s.pending ∧
    (xs.foldl (fun t r => placeReport r t) s).clock = s.clock ∧
    (xs.foldl (fun t r => placeReport r t) s).rp = s.rp ∧
    (xs.foldl (fun t r => placeReport r t) s).act = s.act ∧
    (xs.foldl (fun t r => placeReport r t) s).nm = s.nm ∧
    (xs.foldl (fun t r => placeReport r t) s).mu.openWrite = s.mu.openWrite ∧
    (xs.foldl (fun t r => placeReport r t) s).px = s.px ∧ (xs.foldl (fun t r => placeReport r t) s).pq = s.pq ∧
    (xs.foldl (fun t r => placeReport r t) s).fs = s.fs ∧ (xs.foldl (fun t r => placeReport r t) s).pt = s.pt ∧
    (xs.foldl (fun t r => placeReport r t) s).cl = s.cl ∧ (xs.foldl (fun t r => placeReport r t) s).zr = s.zr ∧
    (xs.foldl (fun t r => placeReport r t) s).da = s.da ∧ (xs.foldl (fun t r => placeReport r t) s).sg = s.sg ∧
    (xs.foldl (fun t r => placeReport r t) s).sc = s.sc ∧ (xs.foldl (fun t r => placeReport r t) s).tc = s.tc ∧
    (xs.foldl (fun t r => placeReport r t) s).lc = s.lc := by
  induction xs generalizing s with
  | nil => simp
  | cons x xs ih => simp [ih]

/-- What `raise` leaves unchanged. -/
@[simp] theorem raise_frame (f : Flag) (s : State) :
    (raise f s).pending = s.pending ∧ (raise f s).clock = s.clock ∧ (raise f s).rp = s.rp ∧
    (raise f s).act = s.act ∧ (raise f s).nm = s.nm ∧ (raise f s).mu.openWrite = s.mu.openWrite ∧
    (raise f s).px = s.px ∧ (raise f s).pq = s.pq ∧ (raise f s).fs = s.fs ∧ (raise f s).pt = s.pt ∧
    (raise f s).cl = s.cl ∧ (raise f s).zr = s.zr ∧ (raise f s).da = s.da ∧ (raise f s).sg = s.sg ∧
    (raise f s).sc = s.sc ∧ (raise f s).tc = s.tc ∧ (raise f s).lc = s.lc := by
  unfold raise
  try dsimp only
  (repeat' split) <;> simp

/-- What `raiseIf` leaves unchanged. -/
@[simp] theorem raiseIf_frame (c : Bool) (f : Flag) (s : State) :
    (raiseIf c f s).pending = s.pending ∧ (raiseIf c f s).clock = s.clock ∧ (raiseIf c f s).rp = s.rp ∧
    (raiseIf c f s).act = s.act ∧ (raiseIf c f s).nm = s.nm ∧ (raiseIf c f s).mu.openWrite = s.mu.openWrite ∧
    (raiseIf c f s).px = s.px ∧ (raiseIf c f s).pq = s.pq ∧ (raiseIf c f s).fs = s.fs ∧
    (raiseIf c f s).pt = s.pt ∧ (raiseIf c f s).cl = s.cl ∧ (raiseIf c f s).zr = s.zr ∧
    (raiseIf c f s).da = s.da ∧ (raiseIf c f s).sg = s.sg ∧ (raiseIf c f s).sc = s.sc ∧
    (raiseIf c f s).tc = s.tc ∧ (raiseIf c f s).lc = s.lc := by
  unfold raiseIf
  try dsimp only
  (repeat' split) <;> simp

/-- What `respond` leaves unchanged. -/
@[simp] theorem respond_frame (code : Nat) (rq : Request) (status : ResponseStatus) (reason : Reason) (count : Nat) (data : List Byte) (s : State) :
    (respond code rq status reason count data s).pending = s.pending ∧
    (respond code rq status reason count data s).clock = s.clock ∧
    (respond code rq status reason count data s).rp = s.rp ∧
    (respond code rq status reason count data s).act = s.act ∧
    (respond code rq status reason count data s).nm = s.nm ∧
    (respond code rq status reason count data s).mu.openWrite = s.mu.openWrite ∧
    (respond code rq status reason count data s).px = s.px ∧
    (respond code rq status reason count data s).pq = s.pq ∧
    (respond code rq status reason count data s).fs = s.fs ∧
    (respond code rq status reason count data s).pt = s.pt ∧
    (respond code rq status reason count data s).cl = s.cl ∧
    (respond code rq status reason count data s).zr = s.zr ∧
    (respond code rq status reason count data s).da = s.da ∧
    (respond code rq status reason count data s).sg = s.sg ∧
    (respond code rq status reason count data s).sc = s.sc ∧
    (respond code rq status reason count data s).tc = s.tc ∧
    (respond code rq status reason count data s).lc = s.lc := by
  unfold respond
  try dsimp only
  (repeat' split) <;> simp

/-- What `respondDone` leaves unchanged. -/
@[simp] theorem respondDone_frame (code : Nat) (rq : Request) (count : Nat) (data : List Byte) (s : State) :
    (respondDone code rq count data s).pending = s.pending ∧
    (respondDone code rq count data s).clock = s.clock ∧ (respondDone code rq count data s).rp = s.rp ∧
    (respondDone code rq count data s).act = s.act ∧ (respondDone code rq count data s).nm = s.nm ∧
    (respondDone code rq count data s).mu.openWrite = s.mu.openWrite ∧
    (respondDone code rq count data s).px = s.px ∧ (respondDone code rq count data s).pq = s.pq ∧
    (respondDone code rq count data s).fs = s.fs ∧ (respondDone code rq count data s).pt = s.pt ∧
    (respondDone code rq count data s).cl = s.cl ∧ (respondDone code rq count data s).zr = s.zr ∧
    (respondDone code rq count data s).da = s.da ∧ (respondDone code rq count data s).sg = s.sg ∧
    (respondDone code rq count data s).sc = s.sc ∧ (respondDone code rq count data s).tc = s.tc ∧
    (respondDone code rq count data s).lc = s.lc := by
  unfold respondDone
  try dsimp only
  (repeat' split) <;> simp

/-- What `refuse` leaves unchanged. -/
@[simp] theorem refuse_frame (code : Nat) (rq : Request) (reason : Reason) (s : State) :
    (refuse code rq reason s).pending = s.pending ∧ (refuse code rq reason s).clock = s.clock ∧
    (refuse code rq reason s).rp = s.rp ∧ (refuse code rq reason s).act = s.act ∧
    (refuse code rq reason s).nm = s.nm ∧ (refuse code rq reason s).mu.openWrite = s.mu.openWrite ∧
    (refuse code rq reason s).px = s.px ∧ (refuse code rq reason s).pq = s.pq ∧
    (refuse code rq reason s).fs = s.fs ∧ (refuse code rq reason s).pt = s.pt ∧
    (refuse code rq reason s).cl = s.cl ∧ (refuse code rq reason s).zr = s.zr ∧
    (refuse code rq reason s).da = s.da ∧ (refuse code rq reason s).sg = s.sg ∧
    (refuse code rq reason s).sc = s.sc ∧ (refuse code rq reason s).tc = s.tc ∧
    (refuse code rq reason s).lc = s.lc := by
  unfold refuse
  try dsimp only
  (repeat' split) <;> simp

/-- What `placeAct` leaves unchanged. -/
@[simp] theorem placeAct_frame (role : ActRole) (cmd : ActCommand) (s : State) :
    (placeAct role cmd s).pending = s.pending ∧ (placeAct role cmd s).clock = s.clock ∧
    (placeAct role cmd s).rp = s.rp ∧ (placeAct role cmd s).report = s.report ∧
    (placeAct role cmd s).nm = s.nm ∧ (placeAct role cmd s).mu = s.mu ∧ (placeAct role cmd s).px = s.px ∧
    (placeAct role cmd s).pq = s.pq ∧ (placeAct role cmd s).fs = s.fs ∧ (placeAct role cmd s).pt = s.pt ∧
    (placeAct role cmd s).cl = s.cl ∧ (placeAct role cmd s).zr = s.zr ∧ (placeAct role cmd s).da = s.da ∧
    (placeAct role cmd s).sg = s.sg ∧ (placeAct role cmd s).sc = s.sc ∧ (placeAct role cmd s).tc = s.tc ∧
    (placeAct role cmd s).lc = s.lc := by
  unfold placeAct
  try dsimp only
  (repeat' split) <;> simp

/-- What `placeFold` leaves unchanged. -/
@[simp] theorem placeFold_frame (left right : Nat) (dir : Dir) (s : State) :
    (placeFold left right dir s).pending = s.pending ∧ (placeFold left right dir s).clock = s.clock ∧
    (placeFold left right dir s).rp = s.rp ∧ (placeFold left right dir s).report = s.report ∧
    (placeFold left right dir s).nm = s.nm ∧ (placeFold left right dir s).mu = s.mu ∧
    (placeFold left right dir s).px = s.px ∧ (placeFold left right dir s).pq = s.pq ∧
    (placeFold left right dir s).fs = s.fs ∧ (placeFold left right dir s).pt = s.pt ∧
    (placeFold left right dir s).cl = s.cl ∧ (placeFold left right dir s).zr = s.zr ∧
    (placeFold left right dir s).da = s.da ∧ (placeFold left right dir s).sg = s.sg ∧
    (placeFold left right dir s).sc = s.sc ∧ (placeFold left right dir s).tc = s.tc ∧
    (placeFold left right dir s).lc = s.lc := by
  unfold placeFold
  try dsimp only
  (repeat' split) <;> simp

/-- What `discardAct` leaves unchanged. -/
@[simp] theorem discardAct_frame (role : ActRole) (s : State) :
    (discardAct role s).pending = s.pending ∧ (discardAct role s).clock = s.clock ∧
    (discardAct role s).rp = s.rp ∧ (discardAct role s).act.next = s.act.next ∧
    (discardAct role s).report = s.report ∧ (discardAct role s).nm = s.nm ∧ (discardAct role s).mu = s.mu ∧
    (discardAct role s).px = s.px ∧ (discardAct role s).pq = s.pq ∧ (discardAct role s).fs = s.fs ∧
    (discardAct role s).pt = s.pt ∧ (discardAct role s).cl = s.cl ∧ (discardAct role s).zr = s.zr ∧
    (discardAct role s).da = s.da ∧ (discardAct role s).sg = s.sg ∧ (discardAct role s).sc = s.sc ∧
    (discardAct role s).tc = s.tc ∧ (discardAct role s).lc = s.lc := by
  unfold discardAct
  try dsimp only
  (repeat' split) <;> simp

/-- What `modifyPiece` leaves unchanged. -/
@[simp] theorem modifyPiece_frame (id : Nat) (f : Piece → Piece) (s : State) :
    (modifyPiece id f s).pending = s.pending ∧ (modifyPiece id f s).clock = s.clock ∧
    (modifyPiece id f s).rp = s.rp ∧ (modifyPiece id f s).act = s.act ∧
    (modifyPiece id f s).report = s.report ∧ (modifyPiece id f s).nm = s.nm ∧ (modifyPiece id f s).mu = s.mu ∧
    (modifyPiece id f s).px = s.px ∧ (modifyPiece id f s).pq.slots = s.pq.slots ∧
    (modifyPiece id f s).pq.runList = s.pq.runList ∧ (modifyPiece id f s).pq.nextId = s.pq.nextId ∧
    (modifyPiece id f s).fs = s.fs ∧ (modifyPiece id f s).pt = s.pt ∧ (modifyPiece id f s).cl = s.cl ∧
    (modifyPiece id f s).zr = s.zr ∧ (modifyPiece id f s).da = s.da ∧ (modifyPiece id f s).sg = s.sg ∧
    (modifyPiece id f s).sc = s.sc ∧ (modifyPiece id f s).tc = s.tc ∧ (modifyPiece id f s).lc = s.lc := by
  unfold modifyPiece
  try dsimp only
  (repeat' split) <;> simp

/-- What `modifySlot` leaves unchanged. -/
@[simp] theorem modifySlot_frame (i : Fin 8) (f : OrderSlot → OrderSlot) (s : State) :
    (modifySlot i f s).pending = s.pending ∧ (modifySlot i f s).clock = s.clock ∧
    (modifySlot i f s).rp = s.rp ∧ (modifySlot i f s).act = s.act ∧ (modifySlot i f s).report = s.report ∧
    (modifySlot i f s).nm = s.nm ∧ (modifySlot i f s).mu = s.mu ∧ (modifySlot i f s).px = s.px ∧
    (modifySlot i f s).pq.runList = s.pq.runList ∧ (modifySlot i f s).pq.pieces = s.pq.pieces ∧
    (modifySlot i f s).pq.nextId = s.pq.nextId ∧ (modifySlot i f s).fs = s.fs ∧ (modifySlot i f s).pt = s.pt ∧
    (modifySlot i f s).cl = s.cl ∧ (modifySlot i f s).zr = s.zr ∧ (modifySlot i f s).da = s.da ∧
    (modifySlot i f s).sg = s.sg ∧ (modifySlot i f s).sc = s.sc ∧ (modifySlot i f s).tc = s.tc ∧
    (modifySlot i f s).lc = s.lc := by
  unfold modifySlot
  try dsimp only
  (repeat' split) <;> simp

/-- What `modifyZone` leaves unchanged. -/
@[simp] theorem modifyZone_frame (z : Fin 8) (f : Zone → Zone) (s : State) :
    (modifyZone z f s).pending = s.pending ∧ (modifyZone z f s).clock = s.clock ∧
    (modifyZone z f s).rp = s.rp ∧ (modifyZone z f s).act = s.act ∧ (modifyZone z f s).report = s.report ∧
    (modifyZone z f s).nm = s.nm ∧ (modifyZone z f s).mu = s.mu ∧ (modifyZone z f s).px = s.px ∧
    (modifyZone z f s).pq = s.pq ∧ (modifyZone z f s).fs = s.fs ∧ (modifyZone z f s).pt = s.pt ∧
    (modifyZone z f s).cl = s.cl ∧ (modifyZone z f s).zr.locks = s.zr.locks ∧ (modifyZone z f s).da = s.da ∧
    (modifyZone z f s).sg = s.sg ∧ (modifyZone z f s).sc = s.sc ∧ (modifyZone z f s).tc = s.tc ∧
    (modifyZone z f s).lc = s.lc := by
  unfold modifyZone
  try dsimp only
  (repeat' split) <;> simp

/-- What `setClock` leaves unchanged. -/
@[simp] theorem setClock_frame (t : Clock) (s : State) :
    (setClock t s).pending = s.pending ∧ (setClock t s).rp = s.rp ∧ (setClock t s).act = s.act ∧
    (setClock t s).report = s.report ∧ (setClock t s).nm = s.nm ∧ (setClock t s).mu = s.mu ∧
    (setClock t s).px = s.px ∧ (setClock t s).pq = s.pq ∧ (setClock t s).fs = s.fs ∧ (setClock t s).pt = s.pt ∧
    (setClock t s).cl = s.cl ∧ (setClock t s).zr = s.zr ∧ (setClock t s).da = s.da ∧ (setClock t s).sg = s.sg ∧
    (setClock t s).sc = s.sc ∧ (setClock t s).tc = s.tc ∧ (setClock t s).lc = s.lc := by
  unfold setClock
  try dsimp only
  (repeat' split) <;> simp

/-- All that `whenOnline` can do. -/
theorem whenOnline_cases (t : Clock) (f : State → State) (s : State) :
    whenOnline t f s = s ∨
    whenOnline t f s = f (setClock t s) := by
  unfold whenOnline
  split <;> simp

/-- `whenOnline` where RP hands the step on. -/
@[simp] theorem whenOnline_of_online (t : Clock) (f : State → State) (s : State) (h : online s = true) :
    whenOnline t f s = f (setClock t s) := by simp [whenOnline, h]

/-- `whenOnline` where RP hands nothing on. -/
@[simp] theorem whenOnline_of_not_online (t : Clock) (f : State → State) (s : State) (h : online s = false) :
    whenOnline t f s = s := by simp [whenOnline, h]

/-- All that `whenRunning` can do. -/
theorem whenRunning_cases (t : Clock) (f : State → State) (s : State) :
    whenRunning t f s = s ∨
    whenRunning t f s = f (setClock t s) := by
  unfold whenRunning
  split <;> simp

/-- `whenRunning` out of reset. -/
@[simp] theorem whenRunning_of_running (t : Clock) (f : State → State) (s : State) (h : s.rp.inReset = false) :
    whenRunning t f s = f (setClock t s) := by simp [whenRunning, h]

/-- `whenRunning` in reset. -/
@[simp] theorem whenRunning_of_reset (t : Clock) (f : State → State) (s : State) (h : s.rp.inReset = true) :
    whenRunning t f s = s := by simp [whenRunning, h]

/-- What `recomputeInfeed` leaves unchanged. -/
@[simp] theorem recomputeInfeed_frame (s : State) :
    (recomputeInfeed s).pending = s.pending ∧ (recomputeInfeed s).clock = s.clock ∧
    (recomputeInfeed s).rp = s.rp ∧ (recomputeInfeed s).report = s.report ∧ (recomputeInfeed s).nm = s.nm ∧
    (recomputeInfeed s).mu = s.mu ∧ (recomputeInfeed s).px = s.px ∧ (recomputeInfeed s).pq = s.pq ∧
    (recomputeInfeed s).fs.state = s.fs.state ∧ (recomputeInfeed s).fs.cursor = s.fs.cursor ∧
    (recomputeInfeed s).fs.formed = s.fs.formed ∧ (recomputeInfeed s).pt = s.pt ∧
    (recomputeInfeed s).cl = s.cl ∧ (recomputeInfeed s).zr = s.zr ∧ (recomputeInfeed s).da = s.da ∧
    (recomputeInfeed s).sg = s.sg ∧ (recomputeInfeed s).sc = s.sc ∧ (recomputeInfeed s).tc = s.tc ∧
    (recomputeInfeed s).lc = s.lc := by
  unfold recomputeInfeed
  try dsimp only
  (repeat' split) <;> simp

@[simp] theorem limitsOf_belt (s : State) : (limitsOf s).belt = s.sg.belt := rfl
@[simp] theorem limitsOf_exitMark (s : State) : (limitsOf s).exitMark = s.sg.exitMark := rfl

/-- What `commandBelt` leaves unchanged. -/
@[simp] theorem commandBelt_frame (cmd : Nat) (s : State) :
    (commandBelt cmd s).pending = s.pending ∧ (commandBelt cmd s).clock = s.clock ∧
    (commandBelt cmd s).rp = s.rp ∧ (commandBelt cmd s).report = s.report ∧ (commandBelt cmd s).nm = s.nm ∧
    (commandBelt cmd s).mu = s.mu ∧ (commandBelt cmd s).px = s.px ∧ (commandBelt cmd s).pq = s.pq ∧
    (commandBelt cmd s).fs.state = s.fs.state ∧ (commandBelt cmd s).fs.cursor = s.fs.cursor ∧
    (commandBelt cmd s).fs.formed = s.fs.formed ∧ (commandBelt cmd s).pt = s.pt ∧
    (commandBelt cmd s).cl = s.cl ∧ (commandBelt cmd s).zr = s.zr ∧ (commandBelt cmd s).da = s.da ∧
    (commandBelt cmd s).sg.vHeat = s.sg.vHeat ∧ (commandBelt cmd s).sg.vInf = s.sg.vInf ∧
    (commandBelt cmd s).sg.governing = s.sg.governing ∧ (commandBelt cmd s).sg.requirement = s.sg.requirement ∧
    (commandBelt cmd s).sg.exitMark = s.sg.exitMark ∧ (commandBelt cmd s).sc = s.sc ∧
    (commandBelt cmd s).tc = s.tc ∧ (commandBelt cmd s).lc = s.lc := by
  unfold commandBelt
  try dsimp only
  (repeat' split) <;> simp

/-- What `recompute` leaves unchanged. -/
@[simp] theorem recompute_frame (s : State) :
    (recompute s).pending = s.pending ∧ (recompute s).clock = s.clock ∧ (recompute s).rp = s.rp ∧
    (recompute s).nm = s.nm ∧ (recompute s).mu.openWrite = s.mu.openWrite ∧ (recompute s).px = s.px ∧
    (recompute s).pq = s.pq ∧ (recompute s).fs.state = s.fs.state ∧ (recompute s).fs.cursor = s.fs.cursor ∧
    (recompute s).fs.formed = s.fs.formed ∧ (recompute s).pt = s.pt ∧ (recompute s).cl = s.cl ∧
    (recompute s).zr = s.zr ∧ (recompute s).da = s.da ∧ (recompute s).sg.exitMark = s.sg.exitMark ∧
    (recompute s).sc = s.sc ∧ (recompute s).tc = s.tc ∧ (recompute s).lc = s.lc := by
  unfold recompute
  try dsimp only
  (repeat' split) <;> simp

/-- What `setRatio` leaves unchanged. -/
@[simp] theorem setRatio_frame (r : Ratio) (s : State) :
    (setRatio r s).pending = s.pending ∧ (setRatio r s).clock = s.clock ∧ (setRatio r s).rp = s.rp ∧
    (setRatio r s).nm = s.nm ∧ (setRatio r s).mu.openWrite = s.mu.openWrite ∧ (setRatio r s).px = s.px ∧
    (setRatio r s).pq = s.pq ∧ (setRatio r s).fs.state = s.fs.state ∧ (setRatio r s).fs.formed = s.fs.formed ∧
    (setRatio r s).pt = s.pt ∧ (setRatio r s).cl = s.cl ∧ (setRatio r s).zr = s.zr ∧ (setRatio r s).da = s.da ∧
    (setRatio r s).sg.exitMark = s.sg.exitMark ∧ (setRatio r s).sc = s.sc ∧ (setRatio r s).tc = s.tc ∧
    (setRatio r s).lc = s.lc := by
  unfold setRatio
  try dsimp only
  (repeat' split) <;> simp

/-- What `modifyUnwind` leaves unchanged. -/
@[simp] theorem modifyUnwind_frame (u : Unwind) (f : UnwindRecord → UnwindRecord) (s : State) :
    (modifyUnwind u f s).pending = s.pending ∧ (modifyUnwind u f s).clock = s.clock ∧
    (modifyUnwind u f s).rp = s.rp ∧ (modifyUnwind u f s).act = s.act ∧
    (modifyUnwind u f s).report = s.report ∧ (modifyUnwind u f s).nm = s.nm ∧ (modifyUnwind u f s).mu = s.mu ∧
    (modifyUnwind u f s).px = s.px ∧ (modifyUnwind u f s).pq = s.pq ∧ (modifyUnwind u f s).fs = s.fs ∧
    (modifyUnwind u f s).pt = s.pt ∧ (modifyUnwind u f s).cl = s.cl ∧ (modifyUnwind u f s).zr = s.zr ∧
    (modifyUnwind u f s).da = s.da ∧ (modifyUnwind u f s).sg = s.sg ∧
    (modifyUnwind u f s).sc.state = s.sc.state ∧ (modifyUnwind u f s).sc.target = s.sc.target ∧
    (modifyUnwind u f s).sc.seam = s.sc.seam ∧ (modifyUnwind u f s).sc.firing = s.sc.firing ∧
    (modifyUnwind u f s).sc.timeoutTaken = s.sc.timeoutTaken ∧
    (modifyUnwind u f s).sc.lastStatus = s.sc.lastStatus ∧ (modifyUnwind u f s).tc = s.tc ∧
    (modifyUnwind u f s).lc = s.lc := by
  unfold modifyUnwind
  try dsimp only
  (repeat' split) <;> simp

/-- What `markSeam` leaves unchanged. -/
@[simp] theorem markSeam_frame (f : Position) (s : State) :
    (markSeam f s).pending = s.pending ∧ (markSeam f s).clock = s.clock ∧ (markSeam f s).rp = s.rp ∧
    (markSeam f s).act = s.act ∧ (markSeam f s).report = s.report ∧ (markSeam f s).nm = s.nm ∧
    (markSeam f s).mu = s.mu ∧ (markSeam f s).px = s.px ∧ (markSeam f s).pq = s.pq ∧ (markSeam f s).fs = s.fs ∧
    (markSeam f s).pt = s.pt ∧ (markSeam f s).zr = s.zr ∧ (markSeam f s).da = s.da ∧ (markSeam f s).sg = s.sg ∧
    (markSeam f s).sc = s.sc ∧ (markSeam f s).tc = s.tc ∧ (markSeam f s).lc = s.lc := by
  unfold markSeam
  try dsimp only
  (repeat' split) <;> simp

/-- What `handSeam` leaves unchanged. -/
@[simp] theorem handSeam_frame (id : Nat) (s : State) :
    (handSeam id s).pending = s.pending ∧ (handSeam id s).clock = s.clock ∧ (handSeam id s).rp = s.rp ∧
    (handSeam id s).nm = s.nm ∧ (handSeam id s).mu.openWrite = s.mu.openWrite ∧ (handSeam id s).px = s.px ∧
    (handSeam id s).pq = s.pq ∧ (handSeam id s).fs.state = s.fs.state ∧
    (handSeam id s).fs.cursor = s.fs.cursor ∧ (handSeam id s).fs.formed = s.fs.formed ∧
    (handSeam id s).pt = s.pt ∧ (handSeam id s).zr = s.zr ∧ (handSeam id s).da = s.da ∧
    (handSeam id s).sg.exitMark = s.sg.exitMark ∧ (handSeam id s).sc = s.sc ∧ (handSeam id s).tc = s.tc ∧
    (handSeam id s).lc = s.lc := by
  unfold handSeam
  try dsimp only
  (repeat' split) <;> simp

/-- What `judgeForced` leaves unchanged. -/
@[simp] theorem judgeForced_frame (p : Piece) (forced : Bool) (s : State) :
    (judgeForced p forced s).pending = s.pending ∧ (judgeForced p forced s).clock = s.clock ∧
    (judgeForced p forced s).rp = s.rp ∧ (judgeForced p forced s).act = s.act ∧
    (judgeForced p forced s).nm = s.nm ∧ (judgeForced p forced s).mu.openWrite = s.mu.openWrite ∧
    (judgeForced p forced s).px = s.px ∧ (judgeForced p forced s).pq.slots = s.pq.slots ∧
    (judgeForced p forced s).pq.runList = s.pq.runList ∧ (judgeForced p forced s).pq.nextId = s.pq.nextId ∧
    (judgeForced p forced s).fs = s.fs ∧ (judgeForced p forced s).pt = s.pt ∧
    (judgeForced p forced s).cl = s.cl ∧ (judgeForced p forced s).zr = s.zr ∧
    (judgeForced p forced s).da = s.da ∧ (judgeForced p forced s).sg = s.sg ∧
    (judgeForced p forced s).sc = s.sc ∧ (judgeForced p forced s).tc = s.tc ∧ (judgeForced p forced s).lc = s.lc := by
  unfold judgeForced
  try dsimp only
  (repeat' split) <;> simp

/-- What `writeSeam` leaves unchanged. -/
@[simp] theorem writeSeam_frame (p : Piece) (c : Cover) (x : Position) (s : State) :
    (writeSeam p c x s).pending = s.pending ∧ (writeSeam p c x s).clock = s.clock ∧
    (writeSeam p c x s).rp = s.rp ∧ (writeSeam p c x s).nm = s.nm ∧
    (writeSeam p c x s).mu.openWrite = s.mu.openWrite ∧ (writeSeam p c x s).px = s.px ∧
    (writeSeam p c x s).pq.slots = s.pq.slots ∧ (writeSeam p c x s).pq.runList = s.pq.runList ∧
    (writeSeam p c x s).pq.nextId = s.pq.nextId ∧ (writeSeam p c x s).fs.state = s.fs.state ∧
    (writeSeam p c x s).fs.cursor = s.fs.cursor ∧ (writeSeam p c x s).fs.formed = s.fs.formed ∧
    (writeSeam p c x s).pt = s.pt ∧ (writeSeam p c x s).zr = s.zr ∧ (writeSeam p c x s).da = s.da ∧
    (writeSeam p c x s).sg.exitMark = s.sg.exitMark ∧ (writeSeam p c x s).sc = s.sc ∧
    (writeSeam p c x s).tc = s.tc ∧ (writeSeam p c x s).lc = s.lc := by
  unfold writeSeam
  try dsimp only
  (repeat' split) <;> simp

/-- What `detachSeam` leaves unchanged. -/
@[simp] theorem detachSeam_frame (attached : Option Nat) (s : State) :
    (detachSeam attached s).pending = s.pending ∧ (detachSeam attached s).clock = s.clock ∧
    (detachSeam attached s).rp = s.rp ∧ (detachSeam attached s).nm = s.nm ∧
    (detachSeam attached s).mu.openWrite = s.mu.openWrite ∧ (detachSeam attached s).px = s.px ∧
    (detachSeam attached s).pq.slots = s.pq.slots ∧ (detachSeam attached s).pq.runList = s.pq.runList ∧
    (detachSeam attached s).pq.nextId = s.pq.nextId ∧ (detachSeam attached s).fs.state = s.fs.state ∧
    (detachSeam attached s).fs.cursor = s.fs.cursor ∧ (detachSeam attached s).fs.formed = s.fs.formed ∧
    (detachSeam attached s).pt = s.pt ∧ (detachSeam attached s).cl = s.cl ∧ (detachSeam attached s).zr = s.zr ∧
    (detachSeam attached s).da = s.da ∧ (detachSeam attached s).sg.exitMark = s.sg.exitMark ∧
    (detachSeam attached s).sc = s.sc ∧ (detachSeam attached s).tc = s.tc ∧ (detachSeam attached s).lc = s.lc := by
  unfold detachSeam
  try dsimp only
  (repeat' split) <;> simp

/-- What `attachTo` leaves unchanged. -/
@[simp] theorem attachTo_frame (f : SeamFlight) (p : Piece) (c : Cover) (s : State) :
    (attachTo f p c s).pending = s.pending ∧ (attachTo f p c s).clock = s.clock ∧
    (attachTo f p c s).rp = s.rp ∧ (attachTo f p c s).nm = s.nm ∧
    (attachTo f p c s).mu.openWrite = s.mu.openWrite ∧ (attachTo f p c s).px = s.px ∧
    (attachTo f p c s).pq.slots = s.pq.slots ∧ (attachTo f p c s).pq.runList = s.pq.runList ∧
    (attachTo f p c s).pq.nextId = s.pq.nextId ∧ (attachTo f p c s).fs.state = s.fs.state ∧
    (attachTo f p c s).fs.cursor = s.fs.cursor ∧ (attachTo f p c s).fs.formed = s.fs.formed ∧
    (attachTo f p c s).pt = s.pt ∧ (attachTo f p c s).zr = s.zr ∧ (attachTo f p c s).da = s.da ∧
    (attachTo f p c s).sg.exitMark = s.sg.exitMark ∧ (attachTo f p c s).sc.unwindA = s.sc.unwindA ∧
    (attachTo f p c s).sc.unwindB = s.sc.unwindB ∧ (attachTo f p c s).sc.state = s.sc.state ∧
    (attachTo f p c s).sc.target = s.sc.target ∧ (attachTo f p c s).sc.firing = s.sc.firing ∧
    (attachTo f p c s).sc.timeoutTaken = s.sc.timeoutTaken ∧
    (attachTo f p c s).sc.lastStatus = s.sc.lastStatus ∧ (attachTo f p c s).tc = s.tc ∧
    (attachTo f p c s).lc = s.lc := by
  unfold attachTo
  try dsimp only
  (repeat' split) <;> simp

/-- What `attachSeam` leaves unchanged. -/
@[simp] theorem attachSeam_frame (s : State) :
    (attachSeam s).pending = s.pending ∧ (attachSeam s).clock = s.clock ∧ (attachSeam s).rp = s.rp ∧
    (attachSeam s).nm = s.nm ∧ (attachSeam s).mu.openWrite = s.mu.openWrite ∧ (attachSeam s).px = s.px ∧
    (attachSeam s).pq.slots = s.pq.slots ∧ (attachSeam s).pq.runList = s.pq.runList ∧
    (attachSeam s).pq.nextId = s.pq.nextId ∧ (attachSeam s).fs.state = s.fs.state ∧
    (attachSeam s).fs.cursor = s.fs.cursor ∧ (attachSeam s).fs.formed = s.fs.formed ∧
    (attachSeam s).pt = s.pt ∧ (attachSeam s).zr = s.zr ∧ (attachSeam s).da = s.da ∧
    (attachSeam s).sg.exitMark = s.sg.exitMark ∧ (attachSeam s).sc.unwindA = s.sc.unwindA ∧
    (attachSeam s).sc.unwindB = s.sc.unwindB ∧ (attachSeam s).sc.state = s.sc.state ∧
    (attachSeam s).sc.target = s.sc.target ∧ (attachSeam s).sc.firing = s.sc.firing ∧
    (attachSeam s).sc.timeoutTaken = s.sc.timeoutTaken ∧ (attachSeam s).sc.lastStatus = s.sc.lastStatus ∧
    (attachSeam s).tc = s.tc ∧ (attachSeam s).lc = s.lc := by
  unfold attachSeam
  try dsimp only
  (repeat' split) <;> simp

/-- What `fireSplice` leaves unchanged. -/
@[simp] theorem fireSplice_frame (t : SpliceTarget) (s : State) :
    (fireSplice t s).pending = s.pending ∧ (fireSplice t s).clock = s.clock ∧ (fireSplice t s).rp = s.rp ∧
    (fireSplice t s).nm = s.nm ∧ (fireSplice t s).mu.openWrite = s.mu.openWrite ∧ (fireSplice t s).px = s.px ∧
    (fireSplice t s).pq.slots = s.pq.slots ∧ (fireSplice t s).pq.runList = s.pq.runList ∧
    (fireSplice t s).pq.nextId = s.pq.nextId ∧ (fireSplice t s).fs.state = s.fs.state ∧
    (fireSplice t s).fs.cursor = s.fs.cursor ∧ (fireSplice t s).fs.formed = s.fs.formed ∧
    (fireSplice t s).pt = s.pt ∧ (fireSplice t s).zr = s.zr ∧ (fireSplice t s).da = s.da ∧
    (fireSplice t s).sg.exitMark = s.sg.exitMark ∧ (fireSplice t s).sc.unwindA = s.sc.unwindA ∧
    (fireSplice t s).sc.unwindB = s.sc.unwindB ∧ (fireSplice t s).sc.lastStatus = s.sc.lastStatus ∧
    (fireSplice t s).tc = s.tc ∧ (fireSplice t s).lc = s.lc := by
  unfold fireSplice
  try dsimp only
  (repeat' split) <;> simp

/-- What `fireIfReached` leaves unchanged. -/
@[simp] theorem fireIfReached_frame (s : State) :
    (fireIfReached s).pending = s.pending ∧ (fireIfReached s).clock = s.clock ∧ (fireIfReached s).rp = s.rp ∧
    (fireIfReached s).nm = s.nm ∧ (fireIfReached s).mu.openWrite = s.mu.openWrite ∧
    (fireIfReached s).px = s.px ∧ (fireIfReached s).pq.slots = s.pq.slots ∧
    (fireIfReached s).pq.runList = s.pq.runList ∧ (fireIfReached s).pq.nextId = s.pq.nextId ∧
    (fireIfReached s).fs.state = s.fs.state ∧ (fireIfReached s).fs.cursor = s.fs.cursor ∧
    (fireIfReached s).fs.formed = s.fs.formed ∧ (fireIfReached s).pt = s.pt ∧ (fireIfReached s).zr = s.zr ∧
    (fireIfReached s).da = s.da ∧ (fireIfReached s).sg.exitMark = s.sg.exitMark ∧
    (fireIfReached s).sc.unwindA = s.sc.unwindA ∧ (fireIfReached s).sc.unwindB = s.sc.unwindB ∧
    (fireIfReached s).sc.lastStatus = s.sc.lastStatus ∧ (fireIfReached s).tc = s.tc ∧
    (fireIfReached s).lc = s.lc := by
  unfold fireIfReached
  try dsimp only
  (repeat' split) <;> simp

/-- What `takeTarget` leaves unchanged. -/
@[simp] theorem takeTarget_frame (t : Option SpliceTarget) (s : State) :
    (takeTarget t s).pending = s.pending ∧ (takeTarget t s).clock = s.clock ∧ (takeTarget t s).rp = s.rp ∧
    (takeTarget t s).act = s.act ∧ (takeTarget t s).report = s.report ∧ (takeTarget t s).nm = s.nm ∧
    (takeTarget t s).mu = s.mu ∧ (takeTarget t s).px = s.px ∧ (takeTarget t s).pq = s.pq ∧
    (takeTarget t s).fs = s.fs ∧ (takeTarget t s).pt = s.pt ∧ (takeTarget t s).cl = s.cl ∧
    (takeTarget t s).zr = s.zr ∧ (takeTarget t s).da = s.da ∧ (takeTarget t s).sg = s.sg ∧
    (takeTarget t s).sc.unwindA = s.sc.unwindA ∧ (takeTarget t s).sc.unwindB = s.sc.unwindB ∧
    (takeTarget t s).sc.seam = s.sc.seam ∧ (takeTarget t s).sc.firing = s.sc.firing ∧
    (takeTarget t s).sc.timeoutTaken = s.sc.timeoutTaken ∧ (takeTarget t s).sc.lastStatus = s.sc.lastStatus ∧
    (takeTarget t s).tc = s.tc ∧ (takeTarget t s).lc = s.lc := by
  unfold takeTarget
  try dsimp only
  (repeat' split) <;> simp

/-- What `runSearch` leaves unchanged. -/
@[simp] theorem runSearch_frame (s : State) :
    (runSearch s).pending = s.pending ∧ (runSearch s).clock = s.clock ∧ (runSearch s).rp = s.rp ∧
    (runSearch s).nm = s.nm ∧ (runSearch s).mu.openWrite = s.mu.openWrite ∧ (runSearch s).px = s.px ∧
    (runSearch s).pq.slots = s.pq.slots ∧ (runSearch s).pq.runList = s.pq.runList ∧
    (runSearch s).pq.nextId = s.pq.nextId ∧ (runSearch s).fs.state = s.fs.state ∧
    (runSearch s).fs.cursor = s.fs.cursor ∧ (runSearch s).fs.formed = s.fs.formed ∧ (runSearch s).pt = s.pt ∧
    (runSearch s).zr = s.zr ∧ (runSearch s).da = s.da ∧ (runSearch s).sg.exitMark = s.sg.exitMark ∧
    (runSearch s).sc.unwindA = s.sc.unwindA ∧ (runSearch s).sc.unwindB = s.sc.unwindB ∧
    (runSearch s).sc.lastStatus = s.sc.lastStatus ∧ (runSearch s).tc = s.tc ∧ (runSearch s).lc = s.lc := by
  unfold runSearch
  try dsimp only
  (repeat' split) <;> simp

/-- What `replanSplice` leaves unchanged. -/
@[simp] theorem replanSplice_frame (s : State) :
    (replanSplice s).pending = s.pending ∧ (replanSplice s).clock = s.clock ∧ (replanSplice s).rp = s.rp ∧
    (replanSplice s).nm = s.nm ∧ (replanSplice s).mu.openWrite = s.mu.openWrite ∧ (replanSplice s).px = s.px ∧
    (replanSplice s).pq.slots = s.pq.slots ∧ (replanSplice s).pq.runList = s.pq.runList ∧
    (replanSplice s).pq.nextId = s.pq.nextId ∧ (replanSplice s).fs.state = s.fs.state ∧
    (replanSplice s).fs.cursor = s.fs.cursor ∧ (replanSplice s).fs.formed = s.fs.formed ∧
    (replanSplice s).pt = s.pt ∧ (replanSplice s).zr = s.zr ∧ (replanSplice s).da = s.da ∧
    (replanSplice s).sg.exitMark = s.sg.exitMark ∧ (replanSplice s).sc.unwindA = s.sc.unwindA ∧
    (replanSplice s).sc.unwindB = s.sc.unwindB ∧ (replanSplice s).sc.lastStatus = s.sc.lastStatus ∧
    (replanSplice s).tc = s.tc ∧ (replanSplice s).lc = s.lc := by
  unfold replanSplice
  try dsimp only
  (repeat' split) <;> simp

/-- What `judgeSplicer` leaves unchanged. -/
@[simp] theorem judgeSplicer_frame (s : State) :
    (judgeSplicer s).pending = s.pending ∧ (judgeSplicer s).clock = s.clock ∧ (judgeSplicer s).rp = s.rp ∧
    (judgeSplicer s).nm = s.nm ∧ (judgeSplicer s).mu.openWrite = s.mu.openWrite ∧ (judgeSplicer s).px = s.px ∧
    (judgeSplicer s).pq.slots = s.pq.slots ∧ (judgeSplicer s).pq.runList = s.pq.runList ∧
    (judgeSplicer s).pq.nextId = s.pq.nextId ∧ (judgeSplicer s).fs.state = s.fs.state ∧
    (judgeSplicer s).fs.cursor = s.fs.cursor ∧ (judgeSplicer s).fs.formed = s.fs.formed ∧
    (judgeSplicer s).pt = s.pt ∧ (judgeSplicer s).zr = s.zr ∧ (judgeSplicer s).da = s.da ∧
    (judgeSplicer s).sg.exitMark = s.sg.exitMark ∧ (judgeSplicer s).sc.unwindA = s.sc.unwindA ∧
    (judgeSplicer s).sc.unwindB = s.sc.unwindB ∧ (judgeSplicer s).sc.lastStatus = s.sc.lastStatus ∧
    (judgeSplicer s).tc = s.tc ∧ (judgeSplicer s).lc = s.lc := by
  unfold judgeSplicer
  try dsimp only
  (repeat' split) <;> simp

/-- What `checkForced` leaves unchanged. -/
@[simp] theorem checkForced_frame (s : State) :
    (checkForced s).pending = s.pending ∧ (checkForced s).clock = s.clock ∧ (checkForced s).rp = s.rp ∧
    (checkForced s).nm = s.nm ∧ (checkForced s).mu.openWrite = s.mu.openWrite ∧ (checkForced s).px = s.px ∧
    (checkForced s).pq.slots = s.pq.slots ∧ (checkForced s).pq.runList = s.pq.runList ∧
    (checkForced s).pq.nextId = s.pq.nextId ∧ (checkForced s).fs.state = s.fs.state ∧
    (checkForced s).fs.cursor = s.fs.cursor ∧ (checkForced s).fs.formed = s.fs.formed ∧
    (checkForced s).pt = s.pt ∧ (checkForced s).zr = s.zr ∧ (checkForced s).da = s.da ∧
    (checkForced s).sg.exitMark = s.sg.exitMark ∧ (checkForced s).sc.unwindA = s.sc.unwindA ∧
    (checkForced s).sc.unwindB = s.sc.unwindB ∧ (checkForced s).sc.lastStatus = s.sc.lastStatus ∧
    (checkForced s).tc = s.tc ∧ (checkForced s).lc = s.lc := by
  unfold checkForced
  try dsimp only
  (repeat' split) <;> simp

/-- What `seamLostFold` leaves unchanged. -/
@[simp] theorem seamLostFold_frame (id : Nat) (f : Position) (n : Nat) (s : State) :
    (seamLostFold id f n s).pending = s.pending ∧ (seamLostFold id f n s).clock = s.clock ∧
    (seamLostFold id f n s).rp = s.rp ∧ (seamLostFold id f n s).nm = s.nm ∧
    (seamLostFold id f n s).mu.openWrite = s.mu.openWrite ∧ (seamLostFold id f n s).px = s.px ∧
    (seamLostFold id f n s).pq.slots = s.pq.slots ∧ (seamLostFold id f n s).pq.runList = s.pq.runList ∧
    (seamLostFold id f n s).pq.nextId = s.pq.nextId ∧ (seamLostFold id f n s).fs.state = s.fs.state ∧
    (seamLostFold id f n s).fs.cursor = s.fs.cursor ∧ (seamLostFold id f n s).fs.formed = s.fs.formed ∧
    (seamLostFold id f n s).pt = s.pt ∧ (seamLostFold id f n s).zr = s.zr ∧ (seamLostFold id f n s).da = s.da ∧
    (seamLostFold id f n s).sg.exitMark = s.sg.exitMark ∧ (seamLostFold id f n s).sc = s.sc ∧
    (seamLostFold id f n s).tc = s.tc ∧ (seamLostFold id f n s).lc = s.lc := by
  unfold seamLostFold
  try dsimp only
  (repeat' split) <;> simp

/-- What `searchIfArmed` leaves unchanged. -/
@[simp] theorem searchIfArmed_frame (s : State) :
    (searchIfArmed s).pending = s.pending ∧ (searchIfArmed s).clock = s.clock ∧ (searchIfArmed s).rp = s.rp ∧
    (searchIfArmed s).nm = s.nm ∧ (searchIfArmed s).mu.openWrite = s.mu.openWrite ∧ (searchIfArmed s).px = s.px ∧
    (searchIfArmed s).pq.slots = s.pq.slots ∧ (searchIfArmed s).pq.runList = s.pq.runList ∧
    (searchIfArmed s).pq.nextId = s.pq.nextId ∧ (searchIfArmed s).fs.state = s.fs.state ∧
    (searchIfArmed s).fs.cursor = s.fs.cursor ∧ (searchIfArmed s).fs.formed = s.fs.formed ∧
    (searchIfArmed s).pt = s.pt ∧ (searchIfArmed s).zr = s.zr ∧ (searchIfArmed s).da = s.da ∧
    (searchIfArmed s).sg.exitMark = s.sg.exitMark ∧ (searchIfArmed s).sc.unwindA = s.sc.unwindA ∧
    (searchIfArmed s).sc.unwindB = s.sc.unwindB ∧ (searchIfArmed s).sc.lastStatus = s.sc.lastStatus ∧
    (searchIfArmed s).tc = s.tc ∧ (searchIfArmed s).lc = s.lc := by
  unfold searchIfArmed
  try dsimp only
  (repeat' split) <;> simp

/-- What `testSeam` leaves unchanged. -/
@[simp] theorem testSeam_frame (x : Position) (s : State) :
    (testSeam x s).pending = s.pending ∧ (testSeam x s).clock = s.clock ∧ (testSeam x s).rp = s.rp ∧
    (testSeam x s).nm = s.nm ∧ (testSeam x s).mu.openWrite = s.mu.openWrite ∧ (testSeam x s).px = s.px ∧
    (testSeam x s).pq.slots = s.pq.slots ∧ (testSeam x s).pq.runList = s.pq.runList ∧
    (testSeam x s).pq.nextId = s.pq.nextId ∧ (testSeam x s).fs.state = s.fs.state ∧
    (testSeam x s).fs.cursor = s.fs.cursor ∧ (testSeam x s).fs.formed = s.fs.formed ∧
    (testSeam x s).pt = s.pt ∧ (testSeam x s).zr = s.zr ∧ (testSeam x s).da = s.da ∧
    (testSeam x s).sg.exitMark = s.sg.exitMark ∧ (testSeam x s).sc.unwindA = s.sc.unwindA ∧
    (testSeam x s).sc.unwindB = s.sc.unwindB ∧ (testSeam x s).sc.lastStatus = s.sc.lastStatus ∧
    (testSeam x s).tc = s.tc ∧ (testSeam x s).lc = s.lc := by
  unfold testSeam
  try dsimp only
  (repeat' split) <;> simp

/-- What `spliceInfeed` leaves unchanged. -/
@[simp] theorem spliceInfeed_frame (x : Position) (s : State) :
    (spliceInfeed x s).pending = s.pending ∧ (spliceInfeed x s).clock = s.clock ∧
    (spliceInfeed x s).rp = s.rp ∧ (spliceInfeed x s).nm = s.nm ∧
    (spliceInfeed x s).mu.openWrite = s.mu.openWrite ∧ (spliceInfeed x s).px = s.px ∧
    (spliceInfeed x s).pq.slots = s.pq.slots ∧ (spliceInfeed x s).pq.runList = s.pq.runList ∧
    (spliceInfeed x s).pq.nextId = s.pq.nextId ∧ (spliceInfeed x s).fs.state = s.fs.state ∧
    (spliceInfeed x s).fs.cursor = s.fs.cursor ∧ (spliceInfeed x s).fs.formed = s.fs.formed ∧
    (spliceInfeed x s).pt = s.pt ∧ (spliceInfeed x s).zr = s.zr ∧ (spliceInfeed x s).da = s.da ∧
    (spliceInfeed x s).sg.exitMark = s.sg.exitMark ∧ (spliceInfeed x s).sc.unwindA = s.sc.unwindA ∧
    (spliceInfeed x s).sc.unwindB = s.sc.unwindB ∧ (spliceInfeed x s).sc.lastStatus = s.sc.lastStatus ∧
    (spliceInfeed x s).tc = s.tc ∧ (spliceInfeed x s).lc = s.lc := by
  unfold spliceInfeed
  try dsimp only
  (repeat' split) <;> simp

/-- What `rejudgeShort` leaves unchanged. -/
@[simp] theorem rejudgeShort_frame (id : Nat) (s : State) :
    (rejudgeShort id s).pending = s.pending ∧ (rejudgeShort id s).clock = s.clock ∧
    (rejudgeShort id s).rp = s.rp ∧ (rejudgeShort id s).act = s.act ∧ (rejudgeShort id s).nm = s.nm ∧
    (rejudgeShort id s).mu.openWrite = s.mu.openWrite ∧ (rejudgeShort id s).px = s.px ∧
    (rejudgeShort id s).pq.slots = s.pq.slots ∧ (rejudgeShort id s).pq.runList = s.pq.runList ∧
    (rejudgeShort id s).pq.nextId = s.pq.nextId ∧ (rejudgeShort id s).fs = s.fs ∧
    (rejudgeShort id s).pt = s.pt ∧ (rejudgeShort id s).cl = s.cl ∧ (rejudgeShort id s).zr = s.zr ∧
    (rejudgeShort id s).da = s.da ∧ (rejudgeShort id s).sg = s.sg ∧ (rejudgeShort id s).sc = s.sc ∧
    (rejudgeShort id s).tc = s.tc ∧ (rejudgeShort id s).lc = s.lc := by
  unfold rejudgeShort
  try dsimp only
  (repeat' split) <;> simp

end Sys2Proof.Machine
end

