-- ==== Sys2Proof/Laws/Frames2.lean ====
section
/-! SUPPORT. What each shared operation leaves unchanged, once for each: orders, zones and the line state. -/
namespace Sys2Proof.Machine

/-- What `appendPiece` leaves unchanged. -/
@[simp] theorem appendPiece_frame (p : Piece) (s : State) :
    (appendPiece p s).pending = s.pending ∧ (appendPiece p s).clock = s.clock ∧ (appendPiece p s).rp = s.rp ∧
    (appendPiece p s).act = s.act ∧ (appendPiece p s).report = s.report ∧ (appendPiece p s).nm = s.nm ∧
    (appendPiece p s).mu = s.mu ∧ (appendPiece p s).px = s.px ∧ (appendPiece p s).pq.slots = s.pq.slots ∧
    (appendPiece p s).pq.runList = s.pq.runList ∧ (appendPiece p s).fs = s.fs ∧ (appendPiece p s).pt = s.pt ∧
    (appendPiece p s).cl = s.cl ∧ (appendPiece p s).zr = s.zr ∧ (appendPiece p s).da = s.da ∧
    (appendPiece p s).sg = s.sg ∧ (appendPiece p s).sc = s.sc ∧ (appendPiece p s).tc = s.tc ∧
    (appendPiece p s).lc = s.lc := by
  unfold appendPiece
  try dsimp only
  (repeat' split) <;> simp

/-- What `promoteHead` leaves unchanged. -/
@[simp] theorem promoteHead_frame (s : State) :
    (promoteHead s).pending = s.pending ∧ (promoteHead s).clock = s.clock ∧ (promoteHead s).rp = s.rp ∧
    (promoteHead s).act = s.act ∧ (promoteHead s).report = s.report ∧ (promoteHead s).nm = s.nm ∧
    (promoteHead s).mu = s.mu ∧ (promoteHead s).px = s.px ∧ (promoteHead s).pq.runList = s.pq.runList ∧
    (promoteHead s).pq.pieces = s.pq.pieces ∧ (promoteHead s).pq.nextId = s.pq.nextId ∧
    (promoteHead s).fs = s.fs ∧ (promoteHead s).pt = s.pt ∧ (promoteHead s).cl = s.cl ∧
    (promoteHead s).zr = s.zr ∧ (promoteHead s).da = s.da ∧ (promoteHead s).sg = s.sg ∧
    (promoteHead s).sc = s.sc ∧ (promoteHead s).tc = s.tc ∧ (promoteHead s).lc = s.lc := by
  unfold promoteHead
  try dsimp only
  (repeat' split) <;> simp

/-- What `completeOrder` leaves unchanged. -/
@[simp] theorem completeOrder_frame (slot : Fin 8) (s : State) :
    (completeOrder slot s).pending = s.pending ∧ (completeOrder slot s).clock = s.clock ∧
    (completeOrder slot s).rp = s.rp ∧ (completeOrder slot s).act = s.act ∧ (completeOrder slot s).nm = s.nm ∧
    (completeOrder slot s).mu.openWrite = s.mu.openWrite ∧ (completeOrder slot s).px = s.px ∧
    (completeOrder slot s).pq.pieces = s.pq.pieces ∧ (completeOrder slot s).pq.nextId = s.pq.nextId ∧
    (completeOrder slot s).fs = s.fs ∧ (completeOrder slot s).pt = s.pt ∧ (completeOrder slot s).cl = s.cl ∧
    (completeOrder slot s).zr = s.zr ∧ (completeOrder slot s).da = s.da ∧ (completeOrder slot s).sg = s.sg ∧
    (completeOrder slot s).sc = s.sc ∧ (completeOrder slot s).tc = s.tc ∧ (completeOrder slot s).lc = s.lc := by
  unfold completeOrder
  try dsimp only
  (repeat' split) <;> simp

/-- What `acceptPlan` leaves unchanged. -/
@[simp] theorem acceptPlan_frame (slot : Fin 8) (plan : Plan) (styleLength : Nat) (s : State) :
    (acceptPlan slot plan styleLength s).pending = s.pending ∧
    (acceptPlan slot plan styleLength s).clock = s.clock ∧ (acceptPlan slot plan styleLength s).rp = s.rp ∧
    (acceptPlan slot plan styleLength s).nm = s.nm ∧
    (acceptPlan slot plan styleLength s).mu.openWrite = s.mu.openWrite ∧
    (acceptPlan slot plan styleLength s).px = s.px ∧
    (acceptPlan slot plan styleLength s).fs.state = s.fs.state ∧
    (acceptPlan slot plan styleLength s).fs.cursor = s.fs.cursor ∧
    (acceptPlan slot plan styleLength s).fs.formed = s.fs.formed ∧
    (acceptPlan slot plan styleLength s).pt = s.pt ∧ (acceptPlan slot plan styleLength s).zr = s.zr ∧
    (acceptPlan slot plan styleLength s).da = s.da ∧
    (acceptPlan slot plan styleLength s).sg.exitMark = s.sg.exitMark ∧
    (acceptPlan slot plan styleLength s).sc.unwindA = s.sc.unwindA ∧
    (acceptPlan slot plan styleLength s).sc.unwindB = s.sc.unwindB ∧
    (acceptPlan slot plan styleLength s).sc.lastStatus = s.sc.lastStatus ∧
    (acceptPlan slot plan styleLength s).tc = s.tc ∧ (acceptPlan slot plan styleLength s).lc = s.lc := by
  unfold acceptPlan
  try dsimp only
  (repeat' split) <;> simp

/-- What `faultSlot` leaves unchanged. -/
@[simp] theorem faultSlot_frame (slot : Fin 8) (f : FaultRecord) (s : State) :
    (faultSlot slot f s).pending = s.pending ∧ (faultSlot slot f s).clock = s.clock ∧
    (faultSlot slot f s).rp = s.rp ∧ (faultSlot slot f s).act = s.act ∧ (faultSlot slot f s).nm = s.nm ∧
    (faultSlot slot f s).mu.openWrite = s.mu.openWrite ∧ (faultSlot slot f s).px = s.px ∧
    (faultSlot slot f s).pq.runList = s.pq.runList ∧ (faultSlot slot f s).pq.pieces = s.pq.pieces ∧
    (faultSlot slot f s).pq.nextId = s.pq.nextId ∧ (faultSlot slot f s).fs = s.fs ∧
    (faultSlot slot f s).pt = s.pt ∧ (faultSlot slot f s).cl = s.cl ∧ (faultSlot slot f s).zr = s.zr ∧
    (faultSlot slot f s).da = s.da ∧ (faultSlot slot f s).sg = s.sg ∧ (faultSlot slot f s).sc = s.sc ∧
    (faultSlot slot f s).tc = s.tc ∧ (faultSlot slot f s).lc = s.lc := by
  unfold faultSlot
  try dsimp only
  (repeat' split) <;> simp

/-- A fetch changes neither pattern memory nor the clear in progress (R5, R6). -/
@[simp] theorem fetch_frame (px : Translator) (index : Nat) (kind : EntryKind) (slot : Fin 8) :
    (fetch px index kind slot).1.mem = px.mem ∧ (fetch px index kind slot).1.clearing = px.clearing := by
  unfold fetch
  try dsimp only
  (repeat' split) <;> simp [install]

/-- The grade level of a walk changes neither pattern memory nor the clear in progress (R12). -/
@[simp] theorem walkGrade_frame (px : Translator) (slot : Fin 8) (o : OrderSlot) :
    (walkGrade px slot o).1.mem = px.mem ∧ (walkGrade px slot o).1.clearing = px.clearing := by
  have h := fetch_frame px (o.origin + o.gradeIndex) .grade slot
  unfold walkGrade
  (repeat' split) <;> simp_all

/-- The style level of a walk changes neither pattern memory nor the clear in progress (R13). -/
@[simp] theorem walkStyle_frame (px : Translator) (slot : Fin 8) (ref : StyleRef) (cursor : Nat) :
    (walkStyle px slot ref cursor).1.mem = px.mem ∧ (walkStyle px slot ref cursor).1.clearing = px.clearing := by
  have h := fetch_frame px (ref.origin + cursor) .panel slot
  unfold walkStyle
  (repeat' split) <;> simp_all

/-- Gathering runs changes neither pattern memory nor the clear in progress (R14). -/
@[simp] theorem gatherRuns_frame (slot : Fin 8) (n index : Nat) (px : Translator) :
    (gatherRuns slot n index px).1.mem = px.mem ∧ (gatherRuns slot n index px).1.clearing = px.clearing := by
  induction n generalizing index px with
  | zero => simp [gatherRuns]
  | succ n ih =>
    have h := fetch_frame px index .run slot
    have k := ih (index + 1) (fetch px index .run slot).1
    unfold gatherRuns
    (repeat' split) <;> simp_all

/-- The panel level of a walk changes neither pattern memory nor the clear in progress (R14). -/
@[simp] theorem walkPanel_frame (px : Translator) (slot : Fin 8) (index : Nat) (e : List Byte) :
    (walkPanel px slot index e).1.mem = px.mem ∧ (walkPanel px slot index e).1.clearing = px.clearing := by
  unfold walkPanel
  (repeat' split) <;> simp

/-- A walk changes neither pattern memory nor the clear in progress: of PX it changes the lookaside and its pointer
alone (R11, R5). -/
@[simp] theorem walk_frame (px : Translator) (slot : Fin 8) (o : OrderSlot) :
    (walk px slot o).1.mem = px.mem ∧ (walk px slot o).1.clearing = px.clearing := by
  unfold walk
  split
  · simp
  · have h1 := walkGrade_frame px slot o
    split
    · simp_all
    · rename_i px1 ref hg
      have h2 := walkStyle_frame px1 slot ref o.cursor
      split
      · simp_all
      · rename_i px2 index e hs
        have h3 := walkPanel_frame px2 slot index e
        (repeat' split) <;> simp_all

/-- What `admitFrom` leaves unchanged. -/
@[simp] theorem admitFrom_frame (slot : Fin 8) (s : State) :
    ((admitFrom slot s).1).pending = s.pending ∧ ((admitFrom slot s).1).clock = s.clock ∧
    ((admitFrom slot s).1).rp = s.rp ∧ ((admitFrom slot s).1).nm = s.nm ∧
    ((admitFrom slot s).1).mu.openWrite = s.mu.openWrite ∧ ((admitFrom slot s).1).px.mem = s.px.mem ∧
    ((admitFrom slot s).1).px.clearing = s.px.clearing ∧ ((admitFrom slot s).1).fs.state = s.fs.state ∧
    ((admitFrom slot s).1).fs.cursor = s.fs.cursor ∧ ((admitFrom slot s).1).fs.formed = s.fs.formed ∧
    ((admitFrom slot s).1).pt = s.pt ∧ ((admitFrom slot s).1).zr = s.zr ∧ ((admitFrom slot s).1).da = s.da ∧
    ((admitFrom slot s).1).sg.exitMark = s.sg.exitMark ∧ ((admitFrom slot s).1).sc.unwindA = s.sc.unwindA ∧
    ((admitFrom slot s).1).sc.unwindB = s.sc.unwindB ∧ ((admitFrom slot s).1).sc.lastStatus = s.sc.lastStatus ∧
    ((admitFrom slot s).1).tc = s.tc ∧ ((admitFrom slot s).1).lc = s.lc := by
  have h := walk_frame s.px slot s.pq.slots[slot]
  unfold admitFrom
  try dsimp only
  split
  all_goals
    rename_i heq
    rw [heq] at h
    simpa using h

/-- What `admitLoop` leaves unchanged. -/
@[simp] theorem admitLoop_frame (fuel : Nat) (s : State) :
    (admitLoop fuel s).pending = s.pending ∧ (admitLoop fuel s).clock = s.clock ∧
    (admitLoop fuel s).rp = s.rp ∧ (admitLoop fuel s).nm = s.nm ∧
    (admitLoop fuel s).mu.openWrite = s.mu.openWrite ∧ (admitLoop fuel s).px.mem = s.px.mem ∧
    (admitLoop fuel s).px.clearing = s.px.clearing ∧ (admitLoop fuel s).fs.state = s.fs.state ∧
    (admitLoop fuel s).fs.cursor = s.fs.cursor ∧ (admitLoop fuel s).fs.formed = s.fs.formed ∧
    (admitLoop fuel s).pt = s.pt ∧ (admitLoop fuel s).zr = s.zr ∧ (admitLoop fuel s).da = s.da ∧
    (admitLoop fuel s).sg.exitMark = s.sg.exitMark ∧ (admitLoop fuel s).sc.unwindA = s.sc.unwindA ∧
    (admitLoop fuel s).sc.unwindB = s.sc.unwindB ∧ (admitLoop fuel s).sc.lastStatus = s.sc.lastStatus ∧
    (admitLoop fuel s).tc = s.tc ∧ (admitLoop fuel s).lc = s.lc := by
  induction fuel generalizing s with
  | zero => simp [admitLoop]
  | succ n ih =>
    unfold admitLoop
    try dsimp only
    (repeat' split) <;> simp_all

/-- What `admissionCheck` leaves unchanged. -/
@[simp] theorem admissionCheck_frame (s : State) :
    (admissionCheck s).pending = s.pending ∧ (admissionCheck s).clock = s.clock ∧
    (admissionCheck s).rp = s.rp ∧ (admissionCheck s).nm = s.nm ∧
    (admissionCheck s).mu.openWrite = s.mu.openWrite ∧ (admissionCheck s).px.mem = s.px.mem ∧
    (admissionCheck s).px.clearing = s.px.clearing ∧ (admissionCheck s).fs.state = s.fs.state ∧
    (admissionCheck s).fs.cursor = s.fs.cursor ∧ (admissionCheck s).fs.formed = s.fs.formed ∧
    (admissionCheck s).pt = s.pt ∧ (admissionCheck s).zr = s.zr ∧ (admissionCheck s).da = s.da ∧
    (admissionCheck s).sg.exitMark = s.sg.exitMark ∧ (admissionCheck s).sc.unwindA = s.sc.unwindA ∧
    (admissionCheck s).sc.unwindB = s.sc.unwindB ∧ (admissionCheck s).sc.lastStatus = s.sc.lastStatus ∧
    (admissionCheck s).tc = s.tc ∧ (admissionCheck s).lc = s.lc := by
  unfold admissionCheck
  try dsimp only
  (repeat' split) <;> simp

/-- What `setBackSlot` leaves unchanged. -/
@[simp] theorem setBackSlot_frame (removed : List Piece) (s : State) (i : Fin 8) :
    (setBackSlot removed s i).pending = s.pending ∧ (setBackSlot removed s i).clock = s.clock ∧
    (setBackSlot removed s i).rp = s.rp ∧ (setBackSlot removed s i).act = s.act ∧
    (setBackSlot removed s i).report = s.report ∧ (setBackSlot removed s i).nm = s.nm ∧
    (setBackSlot removed s i).mu = s.mu ∧ (setBackSlot removed s i).px = s.px ∧
    (setBackSlot removed s i).pq.runList = s.pq.runList ∧ (setBackSlot removed s i).pq.pieces = s.pq.pieces ∧
    (setBackSlot removed s i).pq.nextId = s.pq.nextId ∧ (setBackSlot removed s i).fs = s.fs ∧
    (setBackSlot removed s i).pt = s.pt ∧ (setBackSlot removed s i).cl = s.cl ∧
    (setBackSlot removed s i).zr = s.zr ∧ (setBackSlot removed s i).da = s.da ∧
    (setBackSlot removed s i).sg = s.sg ∧ (setBackSlot removed s i).sc = s.sc ∧
    (setBackSlot removed s i).tc = s.tc ∧ (setBackSlot removed s i).lc = s.lc := by
  unfold setBackSlot
  try dsimp only
  (repeat' split) <;> simp

/-- What a run of `setBackSlot` leaves unchanged. -/
@[simp] theorem foldl_setBackSlot_frame (removed : List Piece) (xs : List (Fin 8)) (s : State) :
    (xs.foldl (setBackSlot removed) s).pending = s.pending ∧
    (xs.foldl (setBackSlot removed) s).clock = s.clock ∧ (xs.foldl (setBackSlot removed) s).rp = s.rp ∧
    (xs.foldl (setBackSlot removed) s).act = s.act ∧ (xs.foldl (setBackSlot removed) s).report = s.report ∧
    (xs.foldl (setBackSlot removed) s).nm = s.nm ∧ (xs.foldl (setBackSlot removed) s).mu = s.mu ∧
    (xs.foldl (setBackSlot removed) s).px = s.px ∧
    (xs.foldl (setBackSlot removed) s).pq.runList = s.pq.runList ∧
    (xs.foldl (setBackSlot removed) s).pq.pieces = s.pq.pieces ∧
    (xs.foldl (setBackSlot removed) s).pq.nextId = s.pq.nextId ∧ (xs.foldl (setBackSlot removed) s).fs = s.fs ∧
    (xs.foldl (setBackSlot removed) s).pt = s.pt ∧ (xs.foldl (setBackSlot removed) s).cl = s.cl ∧
    (xs.foldl (setBackSlot removed) s).zr = s.zr ∧ (xs.foldl (setBackSlot removed) s).da = s.da ∧
    (xs.foldl (setBackSlot removed) s).sg = s.sg ∧ (xs.foldl (setBackSlot removed) s).sc = s.sc ∧
    (xs.foldl (setBackSlot removed) s).tc = s.tc ∧ (xs.foldl (setBackSlot removed) s).lc = s.lc := by
  induction xs generalizing s with
  | nil => simp
  | cons x xs ih => simp [ih]

/-- What a run of `modifySlot` leaves unchanged. -/
theorem foldl_modifySlot_frame (g : Fin 8 → OrderSlot → OrderSlot) (xs : List (Fin 8)) (s : State) :
    (xs.foldl (fun t i => modifySlot i (g i) t) s).pending = s.pending ∧
    (xs.foldl (fun t i => modifySlot i (g i) t) s).clock = s.clock ∧
    (xs.foldl (fun t i => modifySlot i (g i) t) s).rp = s.rp ∧
    (xs.foldl (fun t i => modifySlot i (g i) t) s).act = s.act ∧
    (xs.foldl (fun t i => modifySlot i (g i) t) s).report = s.report ∧
    (xs.foldl (fun t i => modifySlot i (g i) t) s).nm = s.nm ∧
    (xs.foldl (fun t i => modifySlot i (g i) t) s).mu = s.mu ∧
    (xs.foldl (fun t i => modifySlot i (g i) t) s).px = s.px ∧
    (xs.foldl (fun t i => modifySlot i (g i) t) s).pq.runList = s.pq.runList ∧
    (xs.foldl (fun t i => modifySlot i (g i) t) s).pq.pieces = s.pq.pieces ∧
    (xs.foldl (fun t i => modifySlot i (g i) t) s).pq.nextId = s.pq.nextId ∧
    (xs.foldl (fun t i => modifySlot i (g i) t) s).fs = s.fs ∧
    (xs.foldl (fun t i => modifySlot i (g i) t) s).pt = s.pt ∧
    (xs.foldl (fun t i => modifySlot i (g i) t) s).cl = s.cl ∧
    (xs.foldl (fun t i => modifySlot i (g i) t) s).zr = s.zr ∧
    (xs.foldl (fun t i => modifySlot i (g i) t) s).da = s.da ∧
    (xs.foldl (fun t i => modifySlot i (g i) t) s).sg = s.sg ∧
    (xs.foldl (fun t i => modifySlot i (g i) t) s).sc = s.sc ∧
    (xs.foldl (fun t i => modifySlot i (g i) t) s).tc = s.tc ∧
    (xs.foldl (fun t i => modifySlot i (g i) t) s).lc = s.lc := by
  induction xs generalizing s with
  | nil => simp
  | cons x xs ih => simp [ih]

/-- What `returnSlots` leaves unchanged. -/
@[simp] theorem returnSlots_frame (returned : List (Fin 8)) (s : State) :
    (returnSlots returned s).pending = s.pending ∧ (returnSlots returned s).clock = s.clock ∧
    (returnSlots returned s).rp = s.rp ∧ (returnSlots returned s).act = s.act ∧
    (returnSlots returned s).report = s.report ∧ (returnSlots returned s).nm = s.nm ∧
    (returnSlots returned s).mu = s.mu ∧ (returnSlots returned s).px = s.px ∧
    (returnSlots returned s).pq.pieces = s.pq.pieces ∧ (returnSlots returned s).pq.nextId = s.pq.nextId ∧
    (returnSlots returned s).fs = s.fs ∧ (returnSlots returned s).pt = s.pt ∧
    (returnSlots returned s).cl = s.cl ∧ (returnSlots returned s).zr = s.zr ∧
    (returnSlots returned s).da = s.da ∧ (returnSlots returned s).sg = s.sg ∧
    (returnSlots returned s).sc = s.sc ∧ (returnSlots returned s).tc = s.tc ∧ (returnSlots returned s).lc = s.lc := by
  have h := foldl_modifySlot_frame (fun _ o => { o with state := SlotState.loaded })
  unfold returnSlots
  try dsimp only
  (repeat' split) <;> simp [h]

/-- What `renameCells` leaves unchanged. -/
@[simp] theorem renameCells_frame (removed : List Piece) (short : Option Nat) (s : State) :
    (renameCells removed short s).pending = s.pending ∧ (renameCells removed short s).clock = s.clock ∧
    (renameCells removed short s).rp = s.rp ∧ (renameCells removed short s).act = s.act ∧
    (renameCells removed short s).nm = s.nm ∧ (renameCells removed short s).mu.openWrite = s.mu.openWrite ∧
    (renameCells removed short s).px = s.px ∧ (renameCells removed short s).pq = s.pq ∧
    (renameCells removed short s).fs = s.fs ∧ (renameCells removed short s).pt = s.pt ∧
    (renameCells removed short s).zr = s.zr ∧ (renameCells removed short s).da = s.da ∧
    (renameCells removed short s).sg = s.sg ∧ (renameCells removed short s).sc = s.sc ∧
    (renameCells removed short s).tc = s.tc ∧ (renameCells removed short s).lc = s.lc := by
  unfold renameCells
  try dsimp only
  (repeat' split) <;> simp

/-- What `removeAdmitted` leaves unchanged. -/
@[simp] theorem removeAdmitted_frame (short : Option Nat) (s : State) :
    (removeAdmitted short s).pending = s.pending ∧ (removeAdmitted short s).clock = s.clock ∧
    (removeAdmitted short s).rp = s.rp ∧ (removeAdmitted short s).nm = s.nm ∧
    (removeAdmitted short s).mu.openWrite = s.mu.openWrite ∧ (removeAdmitted short s).px = s.px ∧
    (removeAdmitted short s).pq.nextId = s.pq.nextId ∧ (removeAdmitted short s).fs.state = s.fs.state ∧
    (removeAdmitted short s).fs.cursor = s.fs.cursor ∧ (removeAdmitted short s).fs.formed = s.fs.formed ∧
    (removeAdmitted short s).pt = s.pt ∧ (removeAdmitted short s).zr = s.zr ∧
    (removeAdmitted short s).da = s.da ∧ (removeAdmitted short s).sg.exitMark = s.sg.exitMark ∧
    (removeAdmitted short s).sc.unwindA = s.sc.unwindA ∧ (removeAdmitted short s).sc.unwindB = s.sc.unwindB ∧
    (removeAdmitted short s).sc.lastStatus = s.sc.lastStatus ∧ (removeAdmitted short s).tc = s.tc ∧
    (removeAdmitted short s).lc = s.lc := by
  unfold removeAdmitted
  try dsimp only
  (repeat' split) <;> simp

/-- What `markUncertain` leaves unchanged. -/
@[simp] theorem markUncertain_frame (z : Fin 8) (s : State) :
    (markUncertain z s).pending = s.pending ∧ (markUncertain z s).clock = s.clock ∧
    (markUncertain z s).rp = s.rp ∧ (markUncertain z s).act = s.act ∧ (markUncertain z s).report = s.report ∧
    (markUncertain z s).nm = s.nm ∧ (markUncertain z s).mu = s.mu ∧ (markUncertain z s).px = s.px ∧
    (markUncertain z s).pq = s.pq ∧ (markUncertain z s).fs = s.fs ∧ (markUncertain z s).pt = s.pt ∧
    (markUncertain z s).zr = s.zr ∧ (markUncertain z s).da = s.da ∧ (markUncertain z s).sg = s.sg ∧
    (markUncertain z s).sc = s.sc ∧ (markUncertain z s).tc = s.tc ∧ (markUncertain z s).lc = s.lc := by
  unfold markUncertain
  try dsimp only
  (repeat' split) <;> simp

/-- What `goStale` leaves unchanged. -/
@[simp] theorem goStale_frame (z : Fin 8) (s : State) :
    (goStale z s).pending = s.pending ∧ (goStale z s).clock = s.clock ∧ (goStale z s).rp = s.rp ∧
    (goStale z s).nm = s.nm ∧ (goStale z s).mu.openWrite = s.mu.openWrite ∧ (goStale z s).px = s.px ∧
    (goStale z s).pq = s.pq ∧ (goStale z s).fs.state = s.fs.state ∧ (goStale z s).fs.cursor = s.fs.cursor ∧
    (goStale z s).fs.formed = s.fs.formed ∧ (goStale z s).pt = s.pt ∧ (goStale z s).zr.locks = s.zr.locks ∧
    (goStale z s).da = s.da ∧ (goStale z s).sg.exitMark = s.sg.exitMark ∧ (goStale z s).sc = s.sc ∧
    (goStale z s).tc = s.tc ∧ (goStale z s).lc = s.lc := by
  unfold goStale
  try dsimp only
  (repeat' split) <;> simp

/-- What `setValve` leaves unchanged. -/
@[simp] theorem setValve_frame (z : Fin 8) (h : Half) (opening : Nat) (s : State) :
    (setValve z h opening s).pending = s.pending ∧ (setValve z h opening s).clock = s.clock ∧
    (setValve z h opening s).rp = s.rp ∧ (setValve z h opening s).report = s.report ∧
    (setValve z h opening s).nm = s.nm ∧ (setValve z h opening s).mu = s.mu ∧
    (setValve z h opening s).px = s.px ∧ (setValve z h opening s).pq = s.pq ∧
    (setValve z h opening s).fs = s.fs ∧ (setValve z h opening s).pt = s.pt ∧
    (setValve z h opening s).cl = s.cl ∧ (setValve z h opening s).zr.locks = s.zr.locks ∧
    (setValve z h opening s).da = s.da ∧ (setValve z h opening s).sg = s.sg ∧
    (setValve z h opening s).sc = s.sc ∧ (setValve z h opening s).tc = s.tc ∧ (setValve z h opening s).lc = s.lc := by
  unfold setValve
  try dsimp only
  (repeat' split) <;> simp

/-- What `copyValve` leaves unchanged. -/
@[simp] theorem copyValve_frame (p : Fin 4) (h : Half) (s : State) :
    (copyValve p h s).pending = s.pending ∧ (copyValve p h s).clock = s.clock ∧ (copyValve p h s).rp = s.rp ∧
    (copyValve p h s).report = s.report ∧ (copyValve p h s).nm = s.nm ∧ (copyValve p h s).mu = s.mu ∧
    (copyValve p h s).px = s.px ∧ (copyValve p h s).pq = s.pq ∧ (copyValve p h s).fs = s.fs ∧
    (copyValve p h s).pt = s.pt ∧ (copyValve p h s).cl = s.cl ∧ (copyValve p h s).zr.locks = s.zr.locks ∧
    (copyValve p h s).da = s.da ∧ (copyValve p h s).sg = s.sg ∧ (copyValve p h s).sc = s.sc ∧
    (copyValve p h s).tc = s.tc ∧ (copyValve p h s).lc = s.lc := by
  unfold copyValve
  try dsimp only
  (repeat' split) <;> simp

/-- What `driveValve` leaves unchanged. -/
@[simp] theorem driveValve_frame (z : Fin 8) (h : Half) (opening : Nat) (s : State) :
    (driveValve z h opening s).pending = s.pending ∧ (driveValve z h opening s).clock = s.clock ∧
    (driveValve z h opening s).rp = s.rp ∧ (driveValve z h opening s).report = s.report ∧
    (driveValve z h opening s).nm = s.nm ∧ (driveValve z h opening s).mu = s.mu ∧
    (driveValve z h opening s).px = s.px ∧ (driveValve z h opening s).pq = s.pq ∧
    (driveValve z h opening s).fs = s.fs ∧ (driveValve z h opening s).pt = s.pt ∧
    (driveValve z h opening s).cl = s.cl ∧ (driveValve z h opening s).zr.locks = s.zr.locks ∧
    (driveValve z h opening s).da = s.da ∧ (driveValve z h opening s).sg = s.sg ∧
    (driveValve z h opening s).sc = s.sc ∧ (driveValve z h opening s).tc = s.tc ∧
    (driveValve z h opening s).lc = s.lc := by
  unfold driveValve
  try dsimp only
  (repeat' split) <;> simp

/-- What `judgeLock` leaves unchanged. -/
@[simp] theorem judgeLock_frame (p : Fin 4) (s : State) :
    (judgeLock p s).pending = s.pending ∧ (judgeLock p s).clock = s.clock ∧ (judgeLock p s).rp = s.rp ∧
    (judgeLock p s).report = s.report ∧ (judgeLock p s).nm = s.nm ∧ (judgeLock p s).mu = s.mu ∧
    (judgeLock p s).px = s.px ∧ (judgeLock p s).pq = s.pq ∧ (judgeLock p s).fs = s.fs ∧
    (judgeLock p s).pt = s.pt ∧ (judgeLock p s).cl = s.cl ∧ (judgeLock p s).da = s.da ∧
    (judgeLock p s).sg = s.sg ∧ (judgeLock p s).sc = s.sc ∧ (judgeLock p s).tc = s.tc ∧
    (judgeLock p s).lc = s.lc := by
  unfold judgeLock
  try dsimp only
  (repeat' split) <;> simp

/-- What `judgeLocks` leaves unchanged. -/
@[simp] theorem judgeLocks_frame (s : State) :
    (judgeLocks s).pending = s.pending ∧ (judgeLocks s).clock = s.clock ∧ (judgeLocks s).rp = s.rp ∧
    (judgeLocks s).report = s.report ∧ (judgeLocks s).nm = s.nm ∧ (judgeLocks s).mu = s.mu ∧
    (judgeLocks s).px = s.px ∧ (judgeLocks s).pq = s.pq ∧ (judgeLocks s).fs = s.fs ∧ (judgeLocks s).pt = s.pt ∧
    (judgeLocks s).cl = s.cl ∧ (judgeLocks s).da = s.da ∧ (judgeLocks s).sg = s.sg ∧ (judgeLocks s).sc = s.sc ∧
    (judgeLocks s).tc = s.tc ∧ (judgeLocks s).lc = s.lc := by
  unfold judgeLocks
  try dsimp only
  (repeat' split) <;> simp

/-- What `driveManual` leaves unchanged. -/
@[simp] theorem driveManual_frame (z : Fin 8) (s : State) :
    (driveManual z s).pending = s.pending ∧ (driveManual z s).clock = s.clock ∧ (driveManual z s).rp = s.rp ∧
    (driveManual z s).report = s.report ∧ (driveManual z s).nm = s.nm ∧ (driveManual z s).mu = s.mu ∧
    (driveManual z s).px = s.px ∧ (driveManual z s).pq = s.pq ∧ (driveManual z s).fs = s.fs ∧
    (driveManual z s).pt = s.pt ∧ (driveManual z s).cl = s.cl ∧ (driveManual z s).zr.locks = s.zr.locks ∧
    (driveManual z s).da = s.da ∧ (driveManual z s).sg = s.sg ∧ (driveManual z s).sc = s.sc ∧
    (driveManual z s).tc = s.tc ∧ (driveManual z s).lc = s.lc := by
  unfold driveManual
  try dsimp only
  (repeat' split) <;> simp

/-- What `regulate` leaves unchanged. -/
@[simp] theorem regulate_frame (z : Fin 8) (h : Half) (temp : Nat) (s : State) :
    (regulate z h temp s).pending = s.pending ∧ (regulate z h temp s).clock = s.clock ∧
    (regulate z h temp s).rp = s.rp ∧ (regulate z h temp s).report = s.report ∧
    (regulate z h temp s).nm = s.nm ∧ (regulate z h temp s).mu = s.mu ∧ (regulate z h temp s).px = s.px ∧
    (regulate z h temp s).pq = s.pq ∧ (regulate z h temp s).fs = s.fs ∧ (regulate z h temp s).pt = s.pt ∧
    (regulate z h temp s).cl = s.cl ∧ (regulate z h temp s).zr.locks = s.zr.locks ∧
    (regulate z h temp s).da = s.da ∧ (regulate z h temp s).sg = s.sg ∧ (regulate z h temp s).sc = s.sc ∧
    (regulate z h temp s).tc = s.tc ∧ (regulate z h temp s).lc = s.lc := by
  unfold regulate
  try dsimp only
  (repeat' split) <;> simp

/-- What `accrue` leaves unchanged. -/
@[simp] theorem accrue_frame (z : Fin 8) (temp : Nat) (s : State) :
    (accrue z temp s).pending = s.pending ∧ (accrue z temp s).clock = s.clock ∧ (accrue z temp s).rp = s.rp ∧
    (accrue z temp s).nm = s.nm ∧ (accrue z temp s).mu.openWrite = s.mu.openWrite ∧
    (accrue z temp s).px = s.px ∧ (accrue z temp s).pq = s.pq ∧ (accrue z temp s).fs.state = s.fs.state ∧
    (accrue z temp s).fs.cursor = s.fs.cursor ∧ (accrue z temp s).fs.formed = s.fs.formed ∧
    (accrue z temp s).pt = s.pt ∧ (accrue z temp s).zr = s.zr ∧ (accrue z temp s).da.classes = s.da.classes ∧
    (accrue z temp s).sg.exitMark = s.sg.exitMark ∧ (accrue z temp s).sc = s.sc ∧ (accrue z temp s).tc = s.tc ∧
    (accrue z temp s).lc = s.lc := by
  unfold accrue
  try dsimp only
  (repeat' split) <;> simp

/-- What `regulateAndEvaluate` leaves unchanged. -/
@[simp] theorem regulateAndEvaluate_frame (z : Fin 8) (h : Half) (temp : Nat) (s : State) :
    (regulateAndEvaluate z h temp s).pending = s.pending ∧ (regulateAndEvaluate z h temp s).clock = s.clock ∧
    (regulateAndEvaluate z h temp s).rp = s.rp ∧ (regulateAndEvaluate z h temp s).report = s.report ∧
    (regulateAndEvaluate z h temp s).nm = s.nm ∧ (regulateAndEvaluate z h temp s).mu = s.mu ∧
    (regulateAndEvaluate z h temp s).px = s.px ∧ (regulateAndEvaluate z h temp s).pq = s.pq ∧
    (regulateAndEvaluate z h temp s).fs = s.fs ∧ (regulateAndEvaluate z h temp s).pt = s.pt ∧
    (regulateAndEvaluate z h temp s).cl = s.cl ∧ (regulateAndEvaluate z h temp s).zr.locks = s.zr.locks ∧
    (regulateAndEvaluate z h temp s).da = s.da ∧ (regulateAndEvaluate z h temp s).sg = s.sg ∧
    (regulateAndEvaluate z h temp s).sc = s.sc ∧ (regulateAndEvaluate z h temp s).tc = s.tc ∧
    (regulateAndEvaluate z h temp s).lc = s.lc := by
  unfold regulateAndEvaluate
  try dsimp only
  (repeat' split) <;> simp

/-- What `takeProbe` leaves unchanged. -/
@[simp] theorem takeProbe_frame (z : Fin 8) (h : Half) (temp : Nat) (s : State) :
    (takeProbe z h temp s).pending = s.pending ∧ (takeProbe z h temp s).clock = s.clock ∧
    (takeProbe z h temp s).rp = s.rp ∧ (takeProbe z h temp s).nm = s.nm ∧
    (takeProbe z h temp s).mu.openWrite = s.mu.openWrite ∧ (takeProbe z h temp s).px = s.px ∧
    (takeProbe z h temp s).pq = s.pq ∧ (takeProbe z h temp s).fs.state = s.fs.state ∧
    (takeProbe z h temp s).fs.cursor = s.fs.cursor ∧ (takeProbe z h temp s).fs.formed = s.fs.formed ∧
    (takeProbe z h temp s).pt = s.pt ∧ (takeProbe z h temp s).zr.locks = s.zr.locks ∧
    (takeProbe z h temp s).da.classes = s.da.classes ∧ (takeProbe z h temp s).sg.exitMark = s.sg.exitMark ∧
    (takeProbe z h temp s).sc = s.sc ∧ (takeProbe z h temp s).tc = s.tc ∧ (takeProbe z h temp s).lc = s.lc := by
  unfold takeProbe
  try dsimp only
  (repeat' split) <;> simp

/-- What `expireHalf` leaves unchanged. -/
@[simp] theorem expireHalf_frame (z : Fin 8) (h : Half) (s : State) :
    (expireHalf z h s).pending = s.pending ∧ (expireHalf z h s).clock = s.clock ∧
    (expireHalf z h s).rp = s.rp ∧ (expireHalf z h s).nm = s.nm ∧
    (expireHalf z h s).mu.openWrite = s.mu.openWrite ∧ (expireHalf z h s).px = s.px ∧
    (expireHalf z h s).pq = s.pq ∧ (expireHalf z h s).fs.state = s.fs.state ∧
    (expireHalf z h s).fs.cursor = s.fs.cursor ∧ (expireHalf z h s).fs.formed = s.fs.formed ∧
    (expireHalf z h s).pt = s.pt ∧ (expireHalf z h s).zr.locks = s.zr.locks ∧ (expireHalf z h s).da = s.da ∧
    (expireHalf z h s).sg.exitMark = s.sg.exitMark ∧ (expireHalf z h s).sc = s.sc ∧
    (expireHalf z h s).tc = s.tc ∧ (expireHalf z h s).lc = s.lc := by
  unfold expireHalf
  try dsimp only
  (repeat' split) <;> simp

/-- What `wakeZone` leaves unchanged. -/
@[simp] theorem wakeZone_frame (s : State) (z : Fin 8) :
    (wakeZone s z).pending = s.pending ∧ (wakeZone s z).clock = s.clock ∧ (wakeZone s z).rp = s.rp ∧
    (wakeZone s z).report = s.report ∧ (wakeZone s z).nm = s.nm ∧ (wakeZone s z).mu = s.mu ∧
    (wakeZone s z).px = s.px ∧ (wakeZone s z).pq = s.pq ∧ (wakeZone s z).fs = s.fs ∧ (wakeZone s z).pt = s.pt ∧
    (wakeZone s z).cl = s.cl ∧ (wakeZone s z).zr.locks = s.zr.locks ∧ (wakeZone s z).da = s.da ∧
    (wakeZone s z).sg = s.sg ∧ (wakeZone s z).sc = s.sc ∧ (wakeZone s z).tc = s.tc ∧ (wakeZone s z).lc = s.lc := by
  unfold wakeZone
  try dsimp only
  (repeat' split) <;> simp

/-- What a run of `wakeZone` leaves unchanged. -/
@[simp] theorem foldl_wakeZone_frame  (xs : List (Fin 8)) (s : State) :
    (xs.foldl (wakeZone) s).pending = s.pending ∧ (xs.foldl (wakeZone) s).clock = s.clock ∧
    (xs.foldl (wakeZone) s).rp = s.rp ∧ (xs.foldl (wakeZone) s).report = s.report ∧
    (xs.foldl (wakeZone) s).nm = s.nm ∧ (xs.foldl (wakeZone) s).mu = s.mu ∧ (xs.foldl (wakeZone) s).px = s.px ∧
    (xs.foldl (wakeZone) s).pq = s.pq ∧ (xs.foldl (wakeZone) s).fs = s.fs ∧ (xs.foldl (wakeZone) s).pt = s.pt ∧
    (xs.foldl (wakeZone) s).cl = s.cl ∧ (xs.foldl (wakeZone) s).zr.locks = s.zr.locks ∧
    (xs.foldl (wakeZone) s).da = s.da ∧ (xs.foldl (wakeZone) s).sg = s.sg ∧ (xs.foldl (wakeZone) s).sc = s.sc ∧
    (xs.foldl (wakeZone) s).tc = s.tc ∧ (xs.foldl (wakeZone) s).lc = s.lc := by
  induction xs generalizing s with
  | nil => simp
  | cons x xs ih => simp [ih]

/-- What `standbyZone` leaves unchanged. -/
@[simp] theorem standbyZone_frame (s : State) (z : Fin 8) :
    (standbyZone s z).pending = s.pending ∧ (standbyZone s z).clock = s.clock ∧ (standbyZone s z).rp = s.rp ∧
    (standbyZone s z).act = s.act ∧ (standbyZone s z).report = s.report ∧ (standbyZone s z).nm = s.nm ∧
    (standbyZone s z).mu = s.mu ∧ (standbyZone s z).px = s.px ∧ (standbyZone s z).pq = s.pq ∧
    (standbyZone s z).fs = s.fs ∧ (standbyZone s z).pt = s.pt ∧ (standbyZone s z).cl = s.cl ∧
    (standbyZone s z).zr.locks = s.zr.locks ∧ (standbyZone s z).da = s.da ∧ (standbyZone s z).sg = s.sg ∧
    (standbyZone s z).sc = s.sc ∧ (standbyZone s z).tc = s.tc ∧ (standbyZone s z).lc = s.lc := by
  unfold standbyZone
  try dsimp only
  (repeat' split) <;> simp

/-- What a run of `standbyZone` leaves unchanged. -/
@[simp] theorem foldl_standbyZone_frame  (xs : List (Fin 8)) (s : State) :
    (xs.foldl (standbyZone) s).pending = s.pending ∧ (xs.foldl (standbyZone) s).clock = s.clock ∧
    (xs.foldl (standbyZone) s).rp = s.rp ∧ (xs.foldl (standbyZone) s).act = s.act ∧
    (xs.foldl (standbyZone) s).report = s.report ∧ (xs.foldl (standbyZone) s).nm = s.nm ∧
    (xs.foldl (standbyZone) s).mu = s.mu ∧ (xs.foldl (standbyZone) s).px = s.px ∧
    (xs.foldl (standbyZone) s).pq = s.pq ∧ (xs.foldl (standbyZone) s).fs = s.fs ∧
    (xs.foldl (standbyZone) s).pt = s.pt ∧ (xs.foldl (standbyZone) s).cl = s.cl ∧
    (xs.foldl (standbyZone) s).zr.locks = s.zr.locks ∧ (xs.foldl (standbyZone) s).da = s.da ∧
    (xs.foldl (standbyZone) s).sg = s.sg ∧ (xs.foldl (standbyZone) s).sc = s.sc ∧
    (xs.foldl (standbyZone) s).tc = s.tc ∧ (xs.foldl (standbyZone) s).lc = s.lc := by
  induction xs generalizing s with
  | nil => simp
  | cons x xs ih => simp [ih]

/-- What `wakeZones` leaves unchanged. -/
@[simp] theorem wakeZones_frame (zs : List (Fin 8)) (s : State) :
    (wakeZones zs s).pending = s.pending ∧ (wakeZones zs s).clock = s.clock ∧ (wakeZones zs s).rp = s.rp ∧
    (wakeZones zs s).report = s.report ∧ (wakeZones zs s).nm = s.nm ∧ (wakeZones zs s).mu = s.mu ∧
    (wakeZones zs s).px = s.px ∧ (wakeZones zs s).pq = s.pq ∧ (wakeZones zs s).fs = s.fs ∧
    (wakeZones zs s).pt = s.pt ∧ (wakeZones zs s).cl = s.cl ∧ (wakeZones zs s).da = s.da ∧
    (wakeZones zs s).sg = s.sg ∧ (wakeZones zs s).sc = s.sc ∧ (wakeZones zs s).tc = s.tc ∧
    (wakeZones zs s).lc = s.lc := by
  unfold wakeZones
  try dsimp only
  (repeat' split) <;> simp

/-- What `standbyZones` leaves unchanged. -/
@[simp] theorem standbyZones_frame (zs : List (Fin 8)) (s : State) :
    (standbyZones zs s).pending = s.pending ∧ (standbyZones zs s).clock = s.clock ∧
    (standbyZones zs s).rp = s.rp ∧ (standbyZones zs s).report = s.report ∧ (standbyZones zs s).nm = s.nm ∧
    (standbyZones zs s).mu = s.mu ∧ (standbyZones zs s).px = s.px ∧ (standbyZones zs s).pq = s.pq ∧
    (standbyZones zs s).fs = s.fs ∧ (standbyZones zs s).pt = s.pt ∧ (standbyZones zs s).cl = s.cl ∧
    (standbyZones zs s).da = s.da ∧ (standbyZones zs s).sg = s.sg ∧ (standbyZones zs s).sc = s.sc ∧
    (standbyZones zs s).tc = s.tc ∧ (standbyZones zs s).lc = s.lc := by
  unfold standbyZones
  try dsimp only
  (repeat' split) <;> simp

/-- What `disableZone` leaves unchanged. -/
@[simp] theorem disableZone_frame (z : Fin 8) (s : State) :
    (disableZone z s).pending = s.pending ∧ (disableZone z s).clock = s.clock ∧ (disableZone z s).rp = s.rp ∧
    (disableZone z s).report = s.report ∧ (disableZone z s).nm = s.nm ∧ (disableZone z s).mu = s.mu ∧
    (disableZone z s).px = s.px ∧ (disableZone z s).pq = s.pq ∧ (disableZone z s).fs = s.fs ∧
    (disableZone z s).pt = s.pt ∧ (disableZone z s).cl = s.cl ∧ (disableZone z s).zr.locks = s.zr.locks ∧
    (disableZone z s).da = s.da ∧ (disableZone z s).sg = s.sg ∧ (disableZone z s).sc = s.sc ∧
    (disableZone z s).tc = s.tc ∧ (disableZone z s).lc = s.lc := by
  unfold disableZone
  try dsimp only
  (repeat' split) <;> simp

/-- What `enableZone` leaves unchanged. -/
@[simp] theorem enableZone_frame (z : Fin 8) (s : State) :
    (enableZone z s).pending = s.pending ∧ (enableZone z s).clock = s.clock ∧ (enableZone z s).rp = s.rp ∧
    (enableZone z s).nm = s.nm ∧ (enableZone z s).mu.openWrite = s.mu.openWrite ∧ (enableZone z s).px = s.px ∧
    (enableZone z s).pq = s.pq ∧ (enableZone z s).fs.state = s.fs.state ∧
    (enableZone z s).fs.cursor = s.fs.cursor ∧ (enableZone z s).fs.formed = s.fs.formed ∧
    (enableZone z s).pt = s.pt ∧ (enableZone z s).zr.locks = s.zr.locks ∧ (enableZone z s).da = s.da ∧
    (enableZone z s).sg.exitMark = s.sg.exitMark ∧ (enableZone z s).sc = s.sc ∧ (enableZone z s).tc = s.tc ∧
    (enableZone z s).lc = s.lc := by
  unfold enableZone
  try dsimp only
  (repeat' split) <;> simp

/-- What `limitValve` leaves unchanged. -/
@[simp] theorem limitValve_frame (z : Fin 8) (h : Half) (s : State) :
    (limitValve z h s).pending = s.pending ∧ (limitValve z h s).clock = s.clock ∧
    (limitValve z h s).rp = s.rp ∧ (limitValve z h s).report = s.report ∧ (limitValve z h s).nm = s.nm ∧
    (limitValve z h s).mu = s.mu ∧ (limitValve z h s).px = s.px ∧ (limitValve z h s).pq = s.pq ∧
    (limitValve z h s).fs = s.fs ∧ (limitValve z h s).pt = s.pt ∧ (limitValve z h s).cl = s.cl ∧
    (limitValve z h s).zr.locks = s.zr.locks ∧ (limitValve z h s).da = s.da ∧ (limitValve z h s).sg = s.sg ∧
    (limitValve z h s).sc = s.sc ∧ (limitValve z h s).tc = s.tc ∧ (limitValve z h s).lc = s.lc := by
  unfold limitValve
  try dsimp only
  (repeat' split) <;> simp

/-- What `storeZone` leaves unchanged. -/
@[simp] theorem storeZone_frame (z : Fin 8) (e : ZoneStored) (s : State) :
    (storeZone z e s).pending = s.pending ∧ (storeZone z e s).clock = s.clock ∧ (storeZone z e s).rp = s.rp ∧
    (storeZone z e s).nm = s.nm ∧ (storeZone z e s).mu.openWrite = s.mu.openWrite ∧
    (storeZone z e s).px = s.px ∧ (storeZone z e s).pq = s.pq ∧ (storeZone z e s).fs.state = s.fs.state ∧
    (storeZone z e s).fs.cursor = s.fs.cursor ∧ (storeZone z e s).fs.formed = s.fs.formed ∧
    (storeZone z e s).pt = s.pt ∧ (storeZone z e s).da = s.da ∧ (storeZone z e s).sg.exitMark = s.sg.exitMark ∧
    (storeZone z e s).sc = s.sc ∧ (storeZone z e s).tc = s.tc ∧ (storeZone z e s).lc = s.lc := by
  unfold storeZone
  try dsimp only
  (repeat' split) <;> simp

/-- What `startWatch` leaves unchanged. -/
@[simp] theorem startWatch_frame (old new : LineState) (s : State) :
    (startWatch old new s).pending = s.pending ∧ (startWatch old new s).clock = s.clock ∧
    (startWatch old new s).rp = s.rp ∧ (startWatch old new s).act = s.act ∧
    (startWatch old new s).report = s.report ∧ (startWatch old new s).nm = s.nm ∧
    (startWatch old new s).mu = s.mu ∧ (startWatch old new s).px = s.px ∧ (startWatch old new s).pq = s.pq ∧
    (startWatch old new s).fs = s.fs ∧ (startWatch old new s).pt.nextBoundary = s.pt.nextBoundary ∧
    (startWatch old new s).cl = s.cl ∧ (startWatch old new s).zr = s.zr ∧ (startWatch old new s).da = s.da ∧
    (startWatch old new s).sg = s.sg ∧ (startWatch old new s).sc = s.sc ∧ (startWatch old new s).tc = s.tc ∧
    (startWatch old new s).lc = s.lc := by
  unfold startWatch
  try dsimp only
  (repeat' split) <;> simp

/-- What `followHold` leaves unchanged. -/
@[simp] theorem followHold_frame (new : LineState) (s : State) :
    (followHold new s).pending = s.pending ∧ (followHold new s).clock = s.clock ∧
    (followHold new s).rp = s.rp ∧ (followHold new s).act = s.act ∧ (followHold new s).report = s.report ∧
    (followHold new s).nm = s.nm ∧ (followHold new s).mu = s.mu ∧ (followHold new s).px = s.px ∧
    (followHold new s).pq = s.pq ∧ (followHold new s).fs.cursor = s.fs.cursor ∧
    (followHold new s).fs.formed = s.fs.formed ∧ (followHold new s).fs.lastInfeed = s.fs.lastInfeed ∧
    (followHold new s).pt = s.pt ∧ (followHold new s).cl = s.cl ∧ (followHold new s).zr = s.zr ∧
    (followHold new s).da = s.da ∧ (followHold new s).sg = s.sg ∧ (followHold new s).sc = s.sc ∧
    (followHold new s).tc = s.tc ∧ (followHold new s).lc = s.lc := by
  unfold followHold
  try dsimp only
  (repeat' split) <;> simp

/-- What `standbyOnStop` leaves unchanged. -/
@[simp] theorem standbyOnStop_frame (old new : LineState) (s : State) :
    (standbyOnStop old new s).pending = s.pending ∧ (standbyOnStop old new s).clock = s.clock ∧
    (standbyOnStop old new s).rp = s.rp ∧ (standbyOnStop old new s).report = s.report ∧
    (standbyOnStop old new s).nm = s.nm ∧ (standbyOnStop old new s).mu = s.mu ∧
    (standbyOnStop old new s).px = s.px ∧ (standbyOnStop old new s).pq = s.pq ∧
    (standbyOnStop old new s).fs = s.fs ∧ (standbyOnStop old new s).pt = s.pt ∧
    (standbyOnStop old new s).cl = s.cl ∧ (standbyOnStop old new s).da = s.da ∧
    (standbyOnStop old new s).sg = s.sg ∧ (standbyOnStop old new s).sc = s.sc ∧
    (standbyOnStop old new s).tc = s.tc ∧ (standbyOnStop old new s).lc = s.lc := by
  unfold standbyOnStop
  try dsimp only
  (repeat' split) <;> simp

/-- What `admitAfter` leaves unchanged. -/
@[simp] theorem admitAfter_frame (old new : LineState) (s : State) :
    (admitAfter old new s).pending = s.pending ∧ (admitAfter old new s).clock = s.clock ∧
    (admitAfter old new s).rp = s.rp ∧ (admitAfter old new s).nm = s.nm ∧
    (admitAfter old new s).mu.openWrite = s.mu.openWrite ∧ (admitAfter old new s).px.mem = s.px.mem ∧
    (admitAfter old new s).px.clearing = s.px.clearing ∧ (admitAfter old new s).fs.state = s.fs.state ∧
    (admitAfter old new s).fs.cursor = s.fs.cursor ∧ (admitAfter old new s).fs.formed = s.fs.formed ∧
    (admitAfter old new s).pt = s.pt ∧ (admitAfter old new s).zr = s.zr ∧ (admitAfter old new s).da = s.da ∧
    (admitAfter old new s).sg.exitMark = s.sg.exitMark ∧ (admitAfter old new s).sc.unwindA = s.sc.unwindA ∧
    (admitAfter old new s).sc.unwindB = s.sc.unwindB ∧ (admitAfter old new s).sc.lastStatus = s.sc.lastStatus ∧
    (admitAfter old new s).tc = s.tc ∧ (admitAfter old new s).lc = s.lc := by
  unfold admitAfter
  try dsimp only
  (repeat' split) <;> simp

/-- What `changeLine` leaves unchanged. -/
@[simp] theorem changeLine_frame (new : LineState) (s : State) :
    (changeLine new s).pending = s.pending ∧ (changeLine new s).clock = s.clock ∧
    (changeLine new s).rp = s.rp ∧ (changeLine new s).nm = s.nm ∧
    (changeLine new s).mu.openWrite = s.mu.openWrite ∧ (changeLine new s).px.mem = s.px.mem ∧
    (changeLine new s).px.clearing = s.px.clearing ∧ (changeLine new s).fs.cursor = s.fs.cursor ∧
    (changeLine new s).fs.formed = s.fs.formed ∧ (changeLine new s).pt.nextBoundary = s.pt.nextBoundary ∧
    (changeLine new s).da = s.da ∧ (changeLine new s).sg.exitMark = s.sg.exitMark ∧
    (changeLine new s).sc.unwindA = s.sc.unwindA ∧ (changeLine new s).sc.unwindB = s.sc.unwindB ∧
    (changeLine new s).sc.lastStatus = s.sc.lastStatus ∧ (changeLine new s).tc = s.tc ∧
    (changeLine new s).lc.cause = s.lc.cause ∧ (changeLine new s).lc.further = s.lc.further ∧
    (changeLine new s).lc.clearPending = s.lc.clearPending ∧ (changeLine new s).lc.restCount = s.lc.restCount ∧
    (changeLine new s).lc.record = s.lc.record ∧ (changeLine new s).lc.valid = s.lc.valid := by
  unfold changeLine
  try dsimp only
  (repeat' split) <;> simp

/-- What `stopLine` leaves unchanged. -/
@[simp] theorem stopLine_frame (s : State) :
    (stopLine s).pending = s.pending ∧ (stopLine s).clock = s.clock ∧ (stopLine s).rp = s.rp ∧
    (stopLine s).nm = s.nm ∧ (stopLine s).mu.openWrite = s.mu.openWrite ∧ (stopLine s).px.mem = s.px.mem ∧
    (stopLine s).px.clearing = s.px.clearing ∧ (stopLine s).fs.cursor = s.fs.cursor ∧
    (stopLine s).fs.formed = s.fs.formed ∧ (stopLine s).pt.nextBoundary = s.pt.nextBoundary ∧
    (stopLine s).da = s.da ∧ (stopLine s).sg.exitMark = s.sg.exitMark ∧
    (stopLine s).sc.unwindA = s.sc.unwindA ∧ (stopLine s).sc.unwindB = s.sc.unwindB ∧
    (stopLine s).sc.lastStatus = s.sc.lastStatus ∧ (stopLine s).tc = s.tc ∧
    (stopLine s).lc.cause = s.lc.cause ∧ (stopLine s).lc.further = s.lc.further ∧
    (stopLine s).lc.clearPending = s.lc.clearPending ∧ (stopLine s).lc.record = s.lc.record ∧
    (stopLine s).lc.valid = s.lc.valid := by
  unfold stopLine
  try dsimp only
  (repeat' split) <;> simp

/-- What `lineFault` leaves unchanged. -/
@[simp] theorem lineFault_frame (c : LineFault) (s : State) :
    (lineFault c s).pending = s.pending ∧ (lineFault c s).clock = s.clock ∧ (lineFault c s).rp = s.rp ∧
    (lineFault c s).nm = s.nm ∧ (lineFault c s).mu.openWrite = s.mu.openWrite ∧
    (lineFault c s).px.mem = s.px.mem ∧ (lineFault c s).px.clearing = s.px.clearing ∧
    (lineFault c s).fs.cursor = s.fs.cursor ∧ (lineFault c s).fs.formed = s.fs.formed ∧
    (lineFault c s).pt.nextBoundary = s.pt.nextBoundary ∧ (lineFault c s).da = s.da ∧
    (lineFault c s).sg.exitMark = s.sg.exitMark ∧ (lineFault c s).sc.unwindA = s.sc.unwindA ∧
    (lineFault c s).sc.unwindB = s.sc.unwindB ∧ (lineFault c s).sc.lastStatus = s.sc.lastStatus ∧
    (lineFault c s).tc = s.tc ∧ (lineFault c s).lc.record = s.lc.record ∧ (lineFault c s).lc.valid = s.lc.valid := by
  unfold lineFault
  try dsimp only
  (repeat' split) <;> simp

/-- What `leaveFault` leaves unchanged. -/
@[simp] theorem leaveFault_frame (s : State) :
    (leaveFault s).pending = s.pending ∧ (leaveFault s).clock = s.clock ∧ (leaveFault s).rp = s.rp ∧
    (leaveFault s).nm = s.nm ∧ (leaveFault s).mu.openWrite = s.mu.openWrite ∧
    (leaveFault s).px.mem = s.px.mem ∧ (leaveFault s).px.clearing = s.px.clearing ∧
    (leaveFault s).fs.cursor = s.fs.cursor ∧ (leaveFault s).fs.formed = s.fs.formed ∧
    (leaveFault s).pt.nextBoundary = s.pt.nextBoundary ∧ (leaveFault s).da = s.da ∧
    (leaveFault s).sg.exitMark = s.sg.exitMark ∧ (leaveFault s).sc.unwindA = s.sc.unwindA ∧
    (leaveFault s).sc.unwindB = s.sc.unwindB ∧ (leaveFault s).sc.lastStatus = s.sc.lastStatus ∧
    (leaveFault s).tc = s.tc ∧ (leaveFault s).lc.restCount = s.lc.restCount ∧
    (leaveFault s).lc.record = s.lc.record ∧ (leaveFault s).lc.valid = s.lc.valid := by
  unfold leaveFault
  try dsimp only
  (repeat' split) <;> simp

/-- What `judgeBeltSample` leaves unchanged. -/
@[simp] theorem judgeBeltSample_frame (advanced : Bool) (s : State) :
    (judgeBeltSample advanced s).pending = s.pending ∧ (judgeBeltSample advanced s).clock = s.clock ∧
    (judgeBeltSample advanced s).rp = s.rp ∧ (judgeBeltSample advanced s).nm = s.nm ∧
    (judgeBeltSample advanced s).mu.openWrite = s.mu.openWrite ∧
    (judgeBeltSample advanced s).px.mem = s.px.mem ∧ (judgeBeltSample advanced s).px.clearing = s.px.clearing ∧
    (judgeBeltSample advanced s).fs.cursor = s.fs.cursor ∧
    (judgeBeltSample advanced s).fs.formed = s.fs.formed ∧
    (judgeBeltSample advanced s).pt.nextBoundary = s.pt.nextBoundary ∧ (judgeBeltSample advanced s).da = s.da ∧
    (judgeBeltSample advanced s).sg.exitMark = s.sg.exitMark ∧
    (judgeBeltSample advanced s).sc.unwindA = s.sc.unwindA ∧
    (judgeBeltSample advanced s).sc.unwindB = s.sc.unwindB ∧
    (judgeBeltSample advanced s).sc.lastStatus = s.sc.lastStatus ∧ (judgeBeltSample advanced s).tc = s.tc ∧
    (judgeBeltSample advanced s).lc.record = s.lc.record ∧ (judgeBeltSample advanced s).lc.valid = s.lc.valid := by
  unfold judgeBeltSample
  try dsimp only
  (repeat' split) <;> simp

end Sys2Proof.Machine
end

