-- ==== Sys2Proof/Laws/Frames3.lean ====
section
/-! SUPPORT. What each shared operation leaves unchanged, once for each: the fold sequencer, the take-up, the cell list and position tracking. -/
namespace Sys2Proof.Machine

/-- What `startPiece` leaves unchanged. -/
@[simp] theorem startPiece_frame (p : Piece) (start : Position) (s : State) :
    (startPiece p start s).pending = s.pending ∧ (startPiece p start s).clock = s.clock ∧
    (startPiece p start s).rp = s.rp ∧ (startPiece p start s).nm = s.nm ∧
    (startPiece p start s).mu.openWrite = s.mu.openWrite ∧ (startPiece p start s).px.mem = s.px.mem ∧
    (startPiece p start s).px.clearing = s.px.clearing ∧ (startPiece p start s).fs.formed = s.fs.formed ∧
    (startPiece p start s).pt = s.pt ∧ (startPiece p start s).zr = s.zr ∧ (startPiece p start s).da = s.da ∧
    (startPiece p start s).sg.exitMark = s.sg.exitMark ∧ (startPiece p start s).sc.unwindA = s.sc.unwindA ∧
    (startPiece p start s).sc.unwindB = s.sc.unwindB ∧ (startPiece p start s).sc.lastStatus = s.sc.lastStatus ∧
    (startPiece p start s).tc = s.tc ∧ (startPiece p start s).lc = s.lc := by
  unfold startPiece
  try dsimp only
  (repeat' split) <;> simp

/-- What `starve` leaves unchanged. -/
@[simp] theorem starve_frame (s : State) :
    (starve s).pending = s.pending ∧ (starve s).clock = s.clock ∧ (starve s).rp = s.rp ∧ (starve s).nm = s.nm ∧
    (starve s).mu.openWrite = s.mu.openWrite ∧ (starve s).px.mem = s.px.mem ∧
    (starve s).px.clearing = s.px.clearing ∧ (starve s).fs.formed = s.fs.formed ∧
    (starve s).pt.nextBoundary = s.pt.nextBoundary ∧ (starve s).da = s.da ∧
    (starve s).sg.exitMark = s.sg.exitMark ∧ (starve s).sc.unwindA = s.sc.unwindA ∧
    (starve s).sc.unwindB = s.sc.unwindB ∧ (starve s).sc.lastStatus = s.sc.lastStatus ∧ (starve s).tc = s.tc ∧
    (starve s).lc.cause = s.lc.cause ∧ (starve s).lc.further = s.lc.further ∧
    (starve s).lc.clearPending = s.lc.clearPending ∧ (starve s).lc.record = s.lc.record ∧
    (starve s).lc.valid = s.lc.valid := by
  unfold starve
  try dsimp only
  (repeat' split) <;> simp

/-- What `needPiece` leaves unchanged. -/
@[simp] theorem needPiece_frame (start : Position) (s : State) :
    (needPiece start s).pending = s.pending ∧ (needPiece start s).clock = s.clock ∧
    (needPiece start s).rp = s.rp ∧ (needPiece start s).nm = s.nm ∧
    (needPiece start s).mu.openWrite = s.mu.openWrite ∧ (needPiece start s).px.mem = s.px.mem ∧
    (needPiece start s).px.clearing = s.px.clearing ∧ (needPiece start s).fs.formed = s.fs.formed ∧
    (needPiece start s).pt.nextBoundary = s.pt.nextBoundary ∧ (needPiece start s).da = s.da ∧
    (needPiece start s).sg.exitMark = s.sg.exitMark ∧ (needPiece start s).sc.unwindA = s.sc.unwindA ∧
    (needPiece start s).sc.unwindB = s.sc.unwindB ∧ (needPiece start s).sc.lastStatus = s.sc.lastStatus ∧
    (needPiece start s).tc = s.tc ∧ (needPiece start s).lc.cause = s.lc.cause ∧
    (needPiece start s).lc.further = s.lc.further ∧ (needPiece start s).lc.clearPending = s.lc.clearPending ∧
    (needPiece start s).lc.record = s.lc.record ∧ (needPiece start s).lc.valid = s.lc.valid := by
  unfold needPiece
  try dsimp only
  (repeat' split) <;> simp

/-- What `needOnRunning` leaves unchanged. -/
@[simp] theorem needOnRunning_frame (s : State) :
    (needOnRunning s).pending = s.pending ∧ (needOnRunning s).clock = s.clock ∧ (needOnRunning s).rp = s.rp ∧
    (needOnRunning s).nm = s.nm ∧ (needOnRunning s).mu.openWrite = s.mu.openWrite ∧
    (needOnRunning s).px.mem = s.px.mem ∧ (needOnRunning s).px.clearing = s.px.clearing ∧
    (needOnRunning s).fs.formed = s.fs.formed ∧ (needOnRunning s).pt.nextBoundary = s.pt.nextBoundary ∧
    (needOnRunning s).da = s.da ∧ (needOnRunning s).sg.exitMark = s.sg.exitMark ∧
    (needOnRunning s).sc.unwindA = s.sc.unwindA ∧ (needOnRunning s).sc.unwindB = s.sc.unwindB ∧
    (needOnRunning s).sc.lastStatus = s.sc.lastStatus ∧ (needOnRunning s).tc = s.tc ∧
    (needOnRunning s).lc.cause = s.lc.cause ∧ (needOnRunning s).lc.further = s.lc.further ∧
    (needOnRunning s).lc.clearPending = s.lc.clearPending ∧ (needOnRunning s).lc.record = s.lc.record ∧
    (needOnRunning s).lc.valid = s.lc.valid := by
  unfold needOnRunning
  try dsimp only
  (repeat' split) <;> simp

/-- What `toldOfRoom` leaves unchanged. -/
@[simp] theorem toldOfRoom_frame (s : State) :
    (toldOfRoom s).pending = s.pending ∧ (toldOfRoom s).clock = s.clock ∧ (toldOfRoom s).rp = s.rp ∧
    (toldOfRoom s).nm = s.nm ∧ (toldOfRoom s).mu.openWrite = s.mu.openWrite ∧
    (toldOfRoom s).px.mem = s.px.mem ∧ (toldOfRoom s).px.clearing = s.px.clearing ∧
    (toldOfRoom s).fs.formed = s.fs.formed ∧ (toldOfRoom s).pt.nextBoundary = s.pt.nextBoundary ∧
    (toldOfRoom s).da = s.da ∧ (toldOfRoom s).sg.exitMark = s.sg.exitMark ∧
    (toldOfRoom s).sc.unwindA = s.sc.unwindA ∧ (toldOfRoom s).sc.unwindB = s.sc.unwindB ∧
    (toldOfRoom s).sc.lastStatus = s.sc.lastStatus ∧ (toldOfRoom s).tc = s.tc ∧
    (toldOfRoom s).lc.cause = s.lc.cause ∧ (toldOfRoom s).lc.further = s.lc.further ∧
    (toldOfRoom s).lc.clearPending = s.lc.clearPending ∧ (toldOfRoom s).lc.record = s.lc.record ∧
    (toldOfRoom s).lc.valid = s.lc.valid := by
  unfold toldOfRoom
  try dsimp only
  (repeat' split) <;> simp

/-- What `shiftSpans` leaves unchanged. -/
@[simp] theorem shiftSpans_frame (id : Nat) (f : Position) (n : Nat) (s : State) :
    (shiftSpans id f n s).pending = s.pending ∧ (shiftSpans id f n s).clock = s.clock ∧
    (shiftSpans id f n s).rp = s.rp ∧ (shiftSpans id f n s).act = s.act ∧
    (shiftSpans id f n s).report = s.report ∧ (shiftSpans id f n s).nm = s.nm ∧
    (shiftSpans id f n s).mu = s.mu ∧ (shiftSpans id f n s).px = s.px ∧
    (shiftSpans id f n s).pq.slots = s.pq.slots ∧ (shiftSpans id f n s).pq.runList = s.pq.runList ∧
    (shiftSpans id f n s).pq.nextId = s.pq.nextId ∧ (shiftSpans id f n s).fs = s.fs ∧
    (shiftSpans id f n s).pt = s.pt ∧ (shiftSpans id f n s).cl = s.cl ∧ (shiftSpans id f n s).zr = s.zr ∧
    (shiftSpans id f n s).da = s.da ∧ (shiftSpans id f n s).sg = s.sg ∧ (shiftSpans id f n s).sc = s.sc ∧
    (shiftSpans id f n s).tc = s.tc ∧ (shiftSpans id f n s).lc = s.lc := by
  unfold shiftSpans
  try dsimp only
  (repeat' split) <;> simp

/-- What `sendFold` leaves unchanged. -/
@[simp] theorem sendFold_frame (id : Nat) (it : PlanItem) (f : Position) (s : State) :
    (sendFold id it f s).pending = s.pending ∧ (sendFold id it f s).clock = s.clock ∧
    (sendFold id it f s).rp = s.rp ∧ (sendFold id it f s).nm = s.nm ∧
    (sendFold id it f s).mu.openWrite = s.mu.openWrite ∧ (sendFold id it f s).px = s.px ∧
    (sendFold id it f s).pq.slots = s.pq.slots ∧ (sendFold id it f s).pq.runList = s.pq.runList ∧
    (sendFold id it f s).pq.nextId = s.pq.nextId ∧ (sendFold id it f s).fs.state = s.fs.state ∧
    (sendFold id it f s).fs.cursor = s.fs.cursor ∧ (sendFold id it f s).pt = s.pt ∧
    (sendFold id it f s).zr = s.zr ∧ (sendFold id it f s).da = s.da ∧
    (sendFold id it f s).sg.exitMark = s.sg.exitMark ∧ (sendFold id it f s).sc = s.sc ∧
    (sendFold id it f s).tc = s.tc ∧ (sendFold id it f s).lc = s.lc := by
  unfold sendFold
  try dsimp only
  (repeat' split) <;> simp

/-- What `finishPiece` leaves unchanged. -/
@[simp] theorem finishPiece_frame (id : Nat) (stop : Position) (s : State) :
    (finishPiece id stop s).pending = s.pending ∧ (finishPiece id stop s).clock = s.clock ∧
    (finishPiece id stop s).rp = s.rp ∧ (finishPiece id stop s).nm = s.nm ∧
    (finishPiece id stop s).mu.openWrite = s.mu.openWrite ∧ (finishPiece id stop s).px.mem = s.px.mem ∧
    (finishPiece id stop s).px.clearing = s.px.clearing ∧ (finishPiece id stop s).fs.formed = s.fs.formed ∧
    (finishPiece id stop s).pt.nextBoundary = s.pt.nextBoundary ∧ (finishPiece id stop s).da = s.da ∧
    (finishPiece id stop s).sg.exitMark = s.sg.exitMark ∧ (finishPiece id stop s).sc.unwindA = s.sc.unwindA ∧
    (finishPiece id stop s).sc.unwindB = s.sc.unwindB ∧
    (finishPiece id stop s).sc.lastStatus = s.sc.lastStatus ∧ (finishPiece id stop s).tc = s.tc ∧
    (finishPiece id stop s).lc.cause = s.lc.cause ∧ (finishPiece id stop s).lc.further = s.lc.further ∧
    (finishPiece id stop s).lc.clearPending = s.lc.clearPending ∧
    (finishPiece id stop s).lc.record = s.lc.record ∧ (finishPiece id stop s).lc.valid = s.lc.valid := by
  unfold finishPiece
  try dsimp only
  (repeat' split) <;> simp

/-- What `nextItem` leaves unchanged. -/
@[simp] theorem nextItem_frame (id : Nat) (rest : List PlanItem) (b : Position) (s : State) :
    (nextItem id rest b s).pending = s.pending ∧ (nextItem id rest b s).clock = s.clock ∧
    (nextItem id rest b s).rp = s.rp ∧ (nextItem id rest b s).nm = s.nm ∧
    (nextItem id rest b s).mu.openWrite = s.mu.openWrite ∧ (nextItem id rest b s).px.mem = s.px.mem ∧
    (nextItem id rest b s).px.clearing = s.px.clearing ∧ (nextItem id rest b s).fs.formed = s.fs.formed ∧
    (nextItem id rest b s).pt.nextBoundary = s.pt.nextBoundary ∧ (nextItem id rest b s).da = s.da ∧
    (nextItem id rest b s).sg.exitMark = s.sg.exitMark ∧ (nextItem id rest b s).sc.unwindA = s.sc.unwindA ∧
    (nextItem id rest b s).sc.unwindB = s.sc.unwindB ∧ (nextItem id rest b s).sc.lastStatus = s.sc.lastStatus ∧
    (nextItem id rest b s).tc = s.tc ∧ (nextItem id rest b s).lc.cause = s.lc.cause ∧
    (nextItem id rest b s).lc.further = s.lc.further ∧
    (nextItem id rest b s).lc.clearPending = s.lc.clearPending ∧
    (nextItem id rest b s).lc.record = s.lc.record ∧ (nextItem id rest b s).lc.valid = s.lc.valid := by
  unfold nextItem
  try dsimp only
  (repeat' split) <;> simp

/-- What `takeFoldPoint` leaves unchanged. -/
@[simp] theorem takeFoldPoint_frame (p : Piece) (rest : List PlanItem) (b : Position) (s : State) :
    (takeFoldPoint p rest b s).pending = s.pending ∧ (takeFoldPoint p rest b s).clock = s.clock ∧
    (takeFoldPoint p rest b s).rp = s.rp ∧ (takeFoldPoint p rest b s).nm = s.nm ∧
    (takeFoldPoint p rest b s).mu.openWrite = s.mu.openWrite ∧ (takeFoldPoint p rest b s).px.mem = s.px.mem ∧
    (takeFoldPoint p rest b s).px.clearing = s.px.clearing ∧
    (takeFoldPoint p rest b s).pt.nextBoundary = s.pt.nextBoundary ∧ (takeFoldPoint p rest b s).da = s.da ∧
    (takeFoldPoint p rest b s).sg.exitMark = s.sg.exitMark ∧
    (takeFoldPoint p rest b s).sc.unwindA = s.sc.unwindA ∧
    (takeFoldPoint p rest b s).sc.unwindB = s.sc.unwindB ∧
    (takeFoldPoint p rest b s).sc.lastStatus = s.sc.lastStatus ∧ (takeFoldPoint p rest b s).tc = s.tc ∧
    (takeFoldPoint p rest b s).lc.cause = s.lc.cause ∧ (takeFoldPoint p rest b s).lc.further = s.lc.further ∧
    (takeFoldPoint p rest b s).lc.clearPending = s.lc.clearPending ∧
    (takeFoldPoint p rest b s).lc.record = s.lc.record ∧ (takeFoldPoint p rest b s).lc.valid = s.lc.valid := by
  unfold takeFoldPoint
  try dsimp only
  (repeat' split) <;> simp

/-- What `takeFlatEnd` leaves unchanged. -/
@[simp] theorem takeFlatEnd_frame (p : Piece) (rest : List PlanItem) (b : Position) (s : State) :
    (takeFlatEnd p rest b s).pending = s.pending ∧ (takeFlatEnd p rest b s).clock = s.clock ∧
    (takeFlatEnd p rest b s).rp = s.rp ∧ (takeFlatEnd p rest b s).nm = s.nm ∧
    (takeFlatEnd p rest b s).mu.openWrite = s.mu.openWrite ∧ (takeFlatEnd p rest b s).px.mem = s.px.mem ∧
    (takeFlatEnd p rest b s).px.clearing = s.px.clearing ∧
    (takeFlatEnd p rest b s).pt.nextBoundary = s.pt.nextBoundary ∧ (takeFlatEnd p rest b s).da = s.da ∧
    (takeFlatEnd p rest b s).sg.exitMark = s.sg.exitMark ∧ (takeFlatEnd p rest b s).sc.unwindA = s.sc.unwindA ∧
    (takeFlatEnd p rest b s).sc.unwindB = s.sc.unwindB ∧
    (takeFlatEnd p rest b s).sc.lastStatus = s.sc.lastStatus ∧ (takeFlatEnd p rest b s).tc = s.tc ∧
    (takeFlatEnd p rest b s).lc.cause = s.lc.cause ∧ (takeFlatEnd p rest b s).lc.further = s.lc.further ∧
    (takeFlatEnd p rest b s).lc.clearPending = s.lc.clearPending ∧
    (takeFlatEnd p rest b s).lc.record = s.lc.record ∧ (takeFlatEnd p rest b s).lc.valid = s.lc.valid := by
  unfold takeFlatEnd
  try dsimp only
  (repeat' split) <;> simp

/-- What `takeRunOutEnd` leaves unchanged. -/
@[simp] theorem takeRunOutEnd_frame (s : State) :
    (takeRunOutEnd s).pending = s.pending ∧ (takeRunOutEnd s).clock = s.clock ∧ (takeRunOutEnd s).rp = s.rp ∧
    (takeRunOutEnd s).nm = s.nm ∧ (takeRunOutEnd s).mu.openWrite = s.mu.openWrite ∧
    (takeRunOutEnd s).px.mem = s.px.mem ∧ (takeRunOutEnd s).px.clearing = s.px.clearing ∧
    (takeRunOutEnd s).pt.nextBoundary = s.pt.nextBoundary ∧ (takeRunOutEnd s).da = s.da ∧
    (takeRunOutEnd s).sg.exitMark = s.sg.exitMark ∧ (takeRunOutEnd s).sc.unwindA = s.sc.unwindA ∧
    (takeRunOutEnd s).sc.unwindB = s.sc.unwindB ∧ (takeRunOutEnd s).sc.lastStatus = s.sc.lastStatus ∧
    (takeRunOutEnd s).tc = s.tc ∧ (takeRunOutEnd s).lc.cause = s.lc.cause ∧
    (takeRunOutEnd s).lc.further = s.lc.further ∧ (takeRunOutEnd s).lc.clearPending = s.lc.clearPending ∧
    (takeRunOutEnd s).lc.record = s.lc.record ∧ (takeRunOutEnd s).lc.valid = s.lc.valid := by
  unfold takeRunOutEnd
  try dsimp only
  (repeat' split) <;> simp

/-- What `takeBoundary` leaves unchanged. -/
@[simp] theorem takeBoundary_frame (s : State) :
    (takeBoundary s).pending = s.pending ∧ (takeBoundary s).clock = s.clock ∧ (takeBoundary s).rp = s.rp ∧
    (takeBoundary s).nm = s.nm ∧ (takeBoundary s).mu.openWrite = s.mu.openWrite ∧
    (takeBoundary s).px.mem = s.px.mem ∧ (takeBoundary s).px.clearing = s.px.clearing ∧
    (takeBoundary s).pt.nextBoundary = s.pt.nextBoundary ∧ (takeBoundary s).da = s.da ∧
    (takeBoundary s).sg.exitMark = s.sg.exitMark ∧ (takeBoundary s).sc.unwindA = s.sc.unwindA ∧
    (takeBoundary s).sc.unwindB = s.sc.unwindB ∧ (takeBoundary s).sc.lastStatus = s.sc.lastStatus ∧
    (takeBoundary s).tc = s.tc ∧ (takeBoundary s).lc.cause = s.lc.cause ∧
    (takeBoundary s).lc.further = s.lc.further ∧ (takeBoundary s).lc.clearPending = s.lc.clearPending ∧
    (takeBoundary s).lc.record = s.lc.record ∧ (takeBoundary s).lc.valid = s.lc.valid := by
  unfold takeBoundary
  try dsimp only
  (repeat' split) <;> simp

/-- What `takeBoundaries` leaves unchanged. -/
@[simp] theorem takeBoundaries_frame (fuel : Nat) (x : Position) (s : State) :
    (takeBoundaries fuel x s).pending = s.pending ∧ (takeBoundaries fuel x s).clock = s.clock ∧
    (takeBoundaries fuel x s).rp = s.rp ∧ (takeBoundaries fuel x s).nm = s.nm ∧
    (takeBoundaries fuel x s).mu.openWrite = s.mu.openWrite ∧ (takeBoundaries fuel x s).px.mem = s.px.mem ∧
    (takeBoundaries fuel x s).px.clearing = s.px.clearing ∧
    (takeBoundaries fuel x s).pt.nextBoundary = s.pt.nextBoundary ∧ (takeBoundaries fuel x s).da = s.da ∧
    (takeBoundaries fuel x s).sg.exitMark = s.sg.exitMark ∧
    (takeBoundaries fuel x s).sc.unwindA = s.sc.unwindA ∧ (takeBoundaries fuel x s).sc.unwindB = s.sc.unwindB ∧
    (takeBoundaries fuel x s).sc.lastStatus = s.sc.lastStatus ∧ (takeBoundaries fuel x s).tc = s.tc ∧
    (takeBoundaries fuel x s).lc.cause = s.lc.cause ∧ (takeBoundaries fuel x s).lc.further = s.lc.further ∧
    (takeBoundaries fuel x s).lc.clearPending = s.lc.clearPending ∧
    (takeBoundaries fuel x s).lc.record = s.lc.record ∧ (takeBoundaries fuel x s).lc.valid = s.lc.valid := by
  induction fuel generalizing s with
  | zero => simp [takeBoundaries]
  | succ n ih =>
    unfold takeBoundaries
    try dsimp only
    (repeat' split) <;> simp_all

/-- What `updateFormed` leaves unchanged. -/
@[simp] theorem updateFormed_frame (x : Position) (s : State) :
    (updateFormed x s).pending = s.pending ∧ (updateFormed x s).clock = s.clock ∧
    (updateFormed x s).rp = s.rp ∧ (updateFormed x s).act = s.act ∧ (updateFormed x s).report = s.report ∧
    (updateFormed x s).nm = s.nm ∧ (updateFormed x s).mu = s.mu ∧ (updateFormed x s).px = s.px ∧
    (updateFormed x s).pq = s.pq ∧ (updateFormed x s).fs.state = s.fs.state ∧
    (updateFormed x s).fs.cursor = s.fs.cursor ∧ (updateFormed x s).fs.lastInfeed = s.fs.lastInfeed ∧
    (updateFormed x s).pt = s.pt ∧ (updateFormed x s).cl = s.cl ∧ (updateFormed x s).zr = s.zr ∧
    (updateFormed x s).da = s.da ∧ (updateFormed x s).sg = s.sg ∧ (updateFormed x s).sc = s.sc ∧
    (updateFormed x s).tc = s.tc ∧ (updateFormed x s).lc = s.lc := by
  unfold updateFormed
  try dsimp only
  (repeat' split) <;> simp

/-- What `foldInfeed` leaves unchanged. -/
@[simp] theorem foldInfeed_frame (x : Position) (s : State) :
    (foldInfeed x s).pending = s.pending ∧ (foldInfeed x s).clock = s.clock ∧ (foldInfeed x s).rp = s.rp ∧
    (foldInfeed x s).nm = s.nm ∧ (foldInfeed x s).mu.openWrite = s.mu.openWrite ∧
    (foldInfeed x s).px.mem = s.px.mem ∧ (foldInfeed x s).px.clearing = s.px.clearing ∧
    (foldInfeed x s).pt.nextBoundary = s.pt.nextBoundary ∧ (foldInfeed x s).da = s.da ∧
    (foldInfeed x s).sg.exitMark = s.sg.exitMark ∧ (foldInfeed x s).sc.unwindA = s.sc.unwindA ∧
    (foldInfeed x s).sc.unwindB = s.sc.unwindB ∧ (foldInfeed x s).sc.lastStatus = s.sc.lastStatus ∧
    (foldInfeed x s).tc = s.tc ∧ (foldInfeed x s).lc.cause = s.lc.cause ∧
    (foldInfeed x s).lc.further = s.lc.further ∧ (foldInfeed x s).lc.clearPending = s.lc.clearPending ∧
    (foldInfeed x s).lc.record = s.lc.record ∧ (foldInfeed x s).lc.valid = s.lc.valid := by
  unfold foldInfeed
  try dsimp only
  (repeat' split) <;> simp

/-- What `endShort` leaves unchanged. -/
@[simp] theorem endShort_frame (p : Piece) (x : Position) (s : State) :
    (endShort p x s).pending = s.pending ∧ (endShort p x s).clock = s.clock ∧ (endShort p x s).rp = s.rp ∧
    (endShort p x s).nm = s.nm ∧ (endShort p x s).mu.openWrite = s.mu.openWrite ∧ (endShort p x s).px = s.px ∧
    (endShort p x s).pq.slots = s.pq.slots ∧ (endShort p x s).pq.runList = s.pq.runList ∧
    (endShort p x s).pq.nextId = s.pq.nextId ∧ (endShort p x s).fs.state = s.fs.state ∧
    (endShort p x s).pt = s.pt ∧ (endShort p x s).cl = s.cl ∧ (endShort p x s).zr = s.zr ∧
    (endShort p x s).da = s.da ∧ (endShort p x s).sg.exitMark = s.sg.exitMark ∧ (endShort p x s).sc = s.sc ∧
    (endShort p x s).tc = s.tc ∧ (endShort p x s).lc = s.lc := by
  unfold endShort
  try dsimp only
  (repeat' split) <;> simp

/-- What `restartResume` leaves unchanged. -/
@[simp] theorem restartResume_frame (s : State) :
    (restartResume s).pending = s.pending ∧ (restartResume s).clock = s.clock ∧ (restartResume s).rp = s.rp ∧
    (restartResume s).nm = s.nm ∧ (restartResume s).mu.openWrite = s.mu.openWrite ∧
    (restartResume s).px.mem = s.px.mem ∧ (restartResume s).px.clearing = s.px.clearing ∧
    (restartResume s).fs.cursor = s.fs.cursor ∧ (restartResume s).fs.formed = s.fs.formed ∧
    (restartResume s).pt.nextBoundary = s.pt.nextBoundary ∧ (restartResume s).da = s.da ∧
    (restartResume s).sg.exitMark = s.sg.exitMark ∧ (restartResume s).sc.unwindA = s.sc.unwindA ∧
    (restartResume s).sc.unwindB = s.sc.unwindB ∧ (restartResume s).sc.lastStatus = s.sc.lastStatus ∧
    (restartResume s).tc = s.tc ∧ (restartResume s).lc.cause = s.lc.cause ∧
    (restartResume s).lc.further = s.lc.further ∧ (restartResume s).lc.clearPending = s.lc.clearPending ∧
    (restartResume s).lc.restCount = s.lc.restCount ∧ (restartResume s).lc.record = s.lc.record ∧
    (restartResume s).lc.valid = s.lc.valid := by
  unfold restartResume
  try dsimp only
  (repeat' split) <;> simp

/-- What `restartNeed` leaves unchanged. -/
@[simp] theorem restartNeed_frame (x : Position) (s : State) :
    (restartNeed x s).pending = s.pending ∧ (restartNeed x s).clock = s.clock ∧ (restartNeed x s).rp = s.rp ∧
    (restartNeed x s).nm = s.nm ∧ (restartNeed x s).mu.openWrite = s.mu.openWrite ∧
    (restartNeed x s).px.mem = s.px.mem ∧ (restartNeed x s).px.clearing = s.px.clearing ∧
    (restartNeed x s).pt.nextBoundary = s.pt.nextBoundary ∧ (restartNeed x s).da = s.da ∧
    (restartNeed x s).sg.exitMark = s.sg.exitMark ∧ (restartNeed x s).sc.unwindA = s.sc.unwindA ∧
    (restartNeed x s).sc.unwindB = s.sc.unwindB ∧ (restartNeed x s).sc.lastStatus = s.sc.lastStatus ∧
    (restartNeed x s).tc = s.tc ∧ (restartNeed x s).lc.cause = s.lc.cause ∧
    (restartNeed x s).lc.further = s.lc.further ∧ (restartNeed x s).lc.clearPending = s.lc.clearPending ∧
    (restartNeed x s).lc.record = s.lc.record ∧ (restartNeed x s).lc.valid = s.lc.valid := by
  unfold restartNeed
  try dsimp only
  (repeat' split) <;> simp

/-- What `restartLine` leaves unchanged. -/
@[simp] theorem restartLine_frame (s : State) :
    (restartLine s).pending = s.pending ∧ (restartLine s).clock = s.clock ∧ (restartLine s).rp = s.rp ∧
    (restartLine s).nm = s.nm ∧ (restartLine s).mu.openWrite = s.mu.openWrite ∧
    (restartLine s).px.mem = s.px.mem ∧ (restartLine s).px.clearing = s.px.clearing ∧
    (restartLine s).pt.nextBoundary = s.pt.nextBoundary ∧ (restartLine s).da = s.da ∧
    (restartLine s).sg.exitMark = s.sg.exitMark ∧ (restartLine s).sc.unwindA = s.sc.unwindA ∧
    (restartLine s).sc.unwindB = s.sc.unwindB ∧ (restartLine s).sc.lastStatus = s.sc.lastStatus ∧
    (restartLine s).tc = s.tc ∧ (restartLine s).lc.cause = s.lc.cause ∧
    (restartLine s).lc.further = s.lc.further ∧ (restartLine s).lc.clearPending = s.lc.clearPending ∧
    (restartLine s).lc.record = s.lc.record ∧ (restartLine s).lc.valid = s.lc.valid := by
  unfold restartLine
  try dsimp only
  (repeat' split) <;> simp

/-- What `judgeCut` leaves unchanged. -/
@[simp] theorem judgeCut_frame (s : State) :
    (judgeCut s).pending = s.pending ∧ (judgeCut s).clock = s.clock ∧ (judgeCut s).rp = s.rp ∧
    (judgeCut s).act = s.act ∧ (judgeCut s).report = s.report ∧ (judgeCut s).nm = s.nm ∧
    (judgeCut s).mu = s.mu ∧ (judgeCut s).px = s.px ∧ (judgeCut s).pq = s.pq ∧ (judgeCut s).fs = s.fs ∧
    (judgeCut s).pt = s.pt ∧ (judgeCut s).cl = s.cl ∧ (judgeCut s).zr = s.zr ∧ (judgeCut s).da = s.da ∧
    (judgeCut s).sg = s.sg ∧ (judgeCut s).sc = s.sc ∧ (judgeCut s).tc.diameter = s.tc.diameter ∧
    (judgeCut s).tc.lastStatus = s.tc.lastStatus ∧ (judgeCut s).tc.current = s.tc.current ∧
    (judgeCut s).tc.closing = s.tc.closing ∧ (judgeCut s).tc.currentPiece = s.tc.currentPiece ∧
    (judgeCut s).tc.lastOrder = s.tc.lastOrder ∧ (judgeCut s).tc.heldOrder = s.tc.heldOrder ∧
    (judgeCut s).tc.stateTime = s.tc.stateTime ∧ (judgeCut s).tc.timeoutTaken = s.tc.timeoutTaken ∧
    (judgeCut s).lc = s.lc := by
  unfold judgeCut
  try dsimp only
  (repeat' split) <;> simp

/-- What `judgeOrder` leaves unchanged. -/
@[simp] theorem judgeOrder_frame (boundary : Bool) (piece : Option Nat) (s : State) :
    (judgeOrder boundary piece s).pending = s.pending ∧ (judgeOrder boundary piece s).clock = s.clock ∧
    (judgeOrder boundary piece s).rp = s.rp ∧ (judgeOrder boundary piece s).act = s.act ∧
    (judgeOrder boundary piece s).report = s.report ∧ (judgeOrder boundary piece s).nm = s.nm ∧
    (judgeOrder boundary piece s).mu = s.mu ∧ (judgeOrder boundary piece s).px = s.px ∧
    (judgeOrder boundary piece s).pq = s.pq ∧ (judgeOrder boundary piece s).fs = s.fs ∧
    (judgeOrder boundary piece s).pt = s.pt ∧ (judgeOrder boundary piece s).cl = s.cl ∧
    (judgeOrder boundary piece s).zr = s.zr ∧ (judgeOrder boundary piece s).da = s.da ∧
    (judgeOrder boundary piece s).sg = s.sg ∧ (judgeOrder boundary piece s).sc = s.sc ∧
    (judgeOrder boundary piece s).tc.diameter = s.tc.diameter ∧
    (judgeOrder boundary piece s).tc.lastStatus = s.tc.lastStatus ∧
    (judgeOrder boundary piece s).tc.current = s.tc.current ∧
    (judgeOrder boundary piece s).tc.closing = s.tc.closing ∧
    (judgeOrder boundary piece s).tc.currentPiece = s.tc.currentPiece ∧
    (judgeOrder boundary piece s).tc.lastOrder = s.tc.lastOrder ∧
    (judgeOrder boundary piece s).tc.forced = s.tc.forced ∧
    (judgeOrder boundary piece s).tc.stateTime = s.tc.stateTime ∧
    (judgeOrder boundary piece s).tc.timeoutTaken = s.tc.timeoutTaken ∧ (judgeOrder boundary piece s).lc = s.lc := by
  unfold judgeOrder
  try dsimp only
  (repeat' split) <;> simp

/-- What `placeCut` leaves unchanged. -/
@[simp] theorem placeCut_frame (s : State) :
    (placeCut s).pending = s.pending ∧ (placeCut s).clock = s.clock ∧ (placeCut s).rp = s.rp ∧
    (placeCut s).report = s.report ∧ (placeCut s).nm = s.nm ∧ (placeCut s).mu = s.mu ∧ (placeCut s).px = s.px ∧
    (placeCut s).pq = s.pq ∧ (placeCut s).fs = s.fs ∧ (placeCut s).pt = s.pt ∧ (placeCut s).cl = s.cl ∧
    (placeCut s).zr = s.zr ∧ (placeCut s).da = s.da ∧ (placeCut s).sg = s.sg ∧ (placeCut s).sc = s.sc ∧
    (placeCut s).tc = s.tc ∧ (placeCut s).lc = s.lc := by
  unfold placeCut
  try dsimp only
  (repeat' split) <;> simp

/-- What `rollOver` leaves unchanged. -/
@[simp] theorem rollOver_frame (s : State) :
    (rollOver s).pending = s.pending ∧ (rollOver s).clock = s.clock ∧ (rollOver s).rp = s.rp ∧
    (rollOver s).act = s.act ∧ (rollOver s).report = s.report ∧ (rollOver s).nm = s.nm ∧
    (rollOver s).mu = s.mu ∧ (rollOver s).px = s.px ∧ (rollOver s).pq = s.pq ∧ (rollOver s).fs = s.fs ∧
    (rollOver s).pt = s.pt ∧ (rollOver s).cl = s.cl ∧ (rollOver s).zr = s.zr ∧ (rollOver s).da = s.da ∧
    (rollOver s).sg = s.sg ∧ (rollOver s).sc = s.sc ∧ (rollOver s).tc.diameter = s.tc.diameter ∧
    (rollOver s).tc.lastStatus = s.tc.lastStatus ∧ (rollOver s).tc.currentPiece = s.tc.currentPiece ∧
    (rollOver s).tc.lastOrder = s.tc.lastOrder ∧ (rollOver s).lc = s.lc := by
  unfold rollOver
  try dsimp only
  (repeat' split) <;> simp

/-- What `boundaryCut` leaves unchanged. -/
@[simp] theorem boundaryCut_frame (s : State) :
    (boundaryCut s).pending = s.pending ∧ (boundaryCut s).clock = s.clock ∧ (boundaryCut s).rp = s.rp ∧
    (boundaryCut s).report = s.report ∧ (boundaryCut s).nm = s.nm ∧ (boundaryCut s).mu = s.mu ∧
    (boundaryCut s).px = s.px ∧ (boundaryCut s).pq = s.pq ∧ (boundaryCut s).fs = s.fs ∧
    (boundaryCut s).pt = s.pt ∧ (boundaryCut s).cl = s.cl ∧ (boundaryCut s).zr = s.zr ∧
    (boundaryCut s).da = s.da ∧ (boundaryCut s).sg = s.sg ∧ (boundaryCut s).sc = s.sc ∧
    (boundaryCut s).tc.diameter = s.tc.diameter ∧ (boundaryCut s).tc.lastStatus = s.tc.lastStatus ∧
    (boundaryCut s).tc.currentPiece = s.tc.currentPiece ∧ (boundaryCut s).tc.lastOrder = s.tc.lastOrder ∧
    (boundaryCut s).lc = s.lc := by
  unfold boundaryCut
  try dsimp only
  (repeat' split) <;> simp

/-- What `forcedCut` leaves unchanged. -/
@[simp] theorem forcedCut_frame (id : Nat) (s : State) :
    (forcedCut id s).pending = s.pending ∧ (forcedCut id s).clock = s.clock ∧ (forcedCut id s).rp = s.rp ∧
    (forcedCut id s).nm = s.nm ∧ (forcedCut id s).mu.openWrite = s.mu.openWrite ∧ (forcedCut id s).px = s.px ∧
    (forcedCut id s).pq.slots = s.pq.slots ∧ (forcedCut id s).pq.runList = s.pq.runList ∧
    (forcedCut id s).pq.nextId = s.pq.nextId ∧ (forcedCut id s).fs = s.fs ∧ (forcedCut id s).pt = s.pt ∧
    (forcedCut id s).cl = s.cl ∧ (forcedCut id s).zr = s.zr ∧ (forcedCut id s).da = s.da ∧
    (forcedCut id s).sg = s.sg ∧ (forcedCut id s).sc = s.sc ∧ (forcedCut id s).tc.diameter = s.tc.diameter ∧
    (forcedCut id s).tc.lastStatus = s.tc.lastStatus ∧ (forcedCut id s).tc.currentPiece = s.tc.currentPiece ∧
    (forcedCut id s).tc.lastOrder = s.tc.lastOrder ∧ (forcedCut id s).lc = s.lc := by
  unfold forcedCut
  try dsimp only
  (repeat' split) <;> simp

/-- What `fireCut` leaves unchanged. -/
@[simp] theorem fireCut_frame (boundary : Bool) (piece : Option Nat) (s : State) :
    (fireCut boundary piece s).pending = s.pending ∧ (fireCut boundary piece s).clock = s.clock ∧
    (fireCut boundary piece s).rp = s.rp ∧ (fireCut boundary piece s).nm = s.nm ∧
    (fireCut boundary piece s).mu.openWrite = s.mu.openWrite ∧ (fireCut boundary piece s).px = s.px ∧
    (fireCut boundary piece s).pq.slots = s.pq.slots ∧ (fireCut boundary piece s).pq.runList = s.pq.runList ∧
    (fireCut boundary piece s).pq.nextId = s.pq.nextId ∧ (fireCut boundary piece s).fs = s.fs ∧
    (fireCut boundary piece s).pt = s.pt ∧ (fireCut boundary piece s).cl = s.cl ∧
    (fireCut boundary piece s).zr = s.zr ∧ (fireCut boundary piece s).da = s.da ∧
    (fireCut boundary piece s).sg = s.sg ∧ (fireCut boundary piece s).sc = s.sc ∧
    (fireCut boundary piece s).tc.diameter = s.tc.diameter ∧
    (fireCut boundary piece s).tc.lastStatus = s.tc.lastStatus ∧
    (fireCut boundary piece s).tc.currentPiece = s.tc.currentPiece ∧
    (fireCut boundary piece s).tc.lastOrder = s.tc.lastOrder ∧ (fireCut boundary piece s).lc = s.lc := by
  unfold fireCut
  try dsimp only
  (repeat' split) <;> simp

/-- What `listPiece` leaves unchanged. -/
@[simp] theorem listPiece_frame (boundary : Bool) (piece : Option Nat) (s : State) :
    (listPiece boundary piece s).pending = s.pending ∧ (listPiece boundary piece s).clock = s.clock ∧
    (listPiece boundary piece s).rp = s.rp ∧ (listPiece boundary piece s).act = s.act ∧
    (listPiece boundary piece s).report = s.report ∧ (listPiece boundary piece s).nm = s.nm ∧
    (listPiece boundary piece s).mu = s.mu ∧ (listPiece boundary piece s).px = s.px ∧
    (listPiece boundary piece s).pq = s.pq ∧ (listPiece boundary piece s).fs = s.fs ∧
    (listPiece boundary piece s).pt = s.pt ∧ (listPiece boundary piece s).cl = s.cl ∧
    (listPiece boundary piece s).zr = s.zr ∧ (listPiece boundary piece s).da = s.da ∧
    (listPiece boundary piece s).sg = s.sg ∧ (listPiece boundary piece s).sc = s.sc ∧
    (listPiece boundary piece s).tc.winder = s.tc.winder ∧
    (listPiece boundary piece s).tc.diameter = s.tc.diameter ∧
    (listPiece boundary piece s).tc.lastStatus = s.tc.lastStatus ∧
    (listPiece boundary piece s).tc.closing = s.tc.closing ∧
    (listPiece boundary piece s).tc.currentPiece = s.tc.currentPiece ∧
    (listPiece boundary piece s).tc.forced = s.tc.forced ∧
    (listPiece boundary piece s).tc.heldOrder = s.tc.heldOrder ∧
    (listPiece boundary piece s).tc.stateTime = s.tc.stateTime ∧
    (listPiece boundary piece s).tc.timeoutTaken = s.tc.timeoutTaken ∧ (listPiece boundary piece s).lc = s.lc := by
  unfold listPiece
  try dsimp only
  (repeat' split) <;> simp

/-- What `takeUpRetire` leaves unchanged. -/
@[simp] theorem takeUpRetire_frame (piece : Option Nat) (s : State) :
    (takeUpRetire piece s).pending = s.pending ∧ (takeUpRetire piece s).clock = s.clock ∧
    (takeUpRetire piece s).rp = s.rp ∧ (takeUpRetire piece s).nm = s.nm ∧
    (takeUpRetire piece s).mu.openWrite = s.mu.openWrite ∧ (takeUpRetire piece s).px = s.px ∧
    (takeUpRetire piece s).pq.slots = s.pq.slots ∧ (takeUpRetire piece s).pq.runList = s.pq.runList ∧
    (takeUpRetire piece s).pq.nextId = s.pq.nextId ∧ (takeUpRetire piece s).fs = s.fs ∧
    (takeUpRetire piece s).pt = s.pt ∧ (takeUpRetire piece s).cl = s.cl ∧ (takeUpRetire piece s).zr = s.zr ∧
    (takeUpRetire piece s).da = s.da ∧ (takeUpRetire piece s).sg = s.sg ∧ (takeUpRetire piece s).sc = s.sc ∧
    (takeUpRetire piece s).tc.diameter = s.tc.diameter ∧
    (takeUpRetire piece s).tc.lastStatus = s.tc.lastStatus ∧ (takeUpRetire piece s).lc = s.lc := by
  unfold takeUpRetire
  try dsimp only
  (repeat' split) <;> simp

/-- What `completeCut` leaves unchanged. -/
@[simp] theorem completeCut_frame (s : State) :
    (completeCut s).pending = s.pending ∧ (completeCut s).clock = s.clock ∧ (completeCut s).rp = s.rp ∧
    (completeCut s).nm = s.nm ∧ (completeCut s).mu.openWrite = s.mu.openWrite ∧ (completeCut s).px = s.px ∧
    (completeCut s).pq = s.pq ∧ (completeCut s).fs = s.fs ∧ (completeCut s).pt = s.pt ∧
    (completeCut s).cl = s.cl ∧ (completeCut s).zr = s.zr ∧ (completeCut s).da = s.da ∧
    (completeCut s).sg = s.sg ∧ (completeCut s).sc = s.sc ∧ (completeCut s).tc.diameter = s.tc.diameter ∧
    (completeCut s).tc.lastStatus = s.tc.lastStatus ∧ (completeCut s).tc.current = s.tc.current ∧
    (completeCut s).tc.currentPiece = s.tc.currentPiece ∧ (completeCut s).tc.lastOrder = s.tc.lastOrder ∧
    (completeCut s).tc.forced = s.tc.forced ∧ (completeCut s).tc.heldOrder = s.tc.heldOrder ∧
    (completeCut s).lc = s.lc := by
  unfold completeCut
  try dsimp only
  (repeat' split) <;> simp

/-- What `completeIndex` leaves unchanged. -/
@[simp] theorem completeIndex_frame (s : State) :
    (completeIndex s).pending = s.pending ∧ (completeIndex s).clock = s.clock ∧ (completeIndex s).rp = s.rp ∧
    (completeIndex s).act = s.act ∧ (completeIndex s).report = s.report ∧ (completeIndex s).nm = s.nm ∧
    (completeIndex s).mu = s.mu ∧ (completeIndex s).px = s.px ∧ (completeIndex s).pq = s.pq ∧
    (completeIndex s).fs = s.fs ∧ (completeIndex s).pt = s.pt ∧ (completeIndex s).cl = s.cl ∧
    (completeIndex s).zr = s.zr ∧ (completeIndex s).da = s.da ∧ (completeIndex s).sg = s.sg ∧
    (completeIndex s).sc = s.sc ∧ (completeIndex s).tc.lastStatus = s.tc.lastStatus ∧
    (completeIndex s).tc.current = s.tc.current ∧ (completeIndex s).tc.closing = s.tc.closing ∧
    (completeIndex s).tc.currentPiece = s.tc.currentPiece ∧ (completeIndex s).tc.lastOrder = s.tc.lastOrder ∧
    (completeIndex s).lc = s.lc := by
  unfold completeIndex
  try dsimp only
  (repeat' split) <;> simp

/-- What `takeUpStatus` leaves unchanged. -/
@[simp] theorem takeUpStatus_frame (r : TakeUpReport) (s : State) :
    (takeUpStatus r s).pending = s.pending ∧ (takeUpStatus r s).clock = s.clock ∧
    (takeUpStatus r s).rp = s.rp ∧ (takeUpStatus r s).nm = s.nm ∧
    (takeUpStatus r s).mu.openWrite = s.mu.openWrite ∧ (takeUpStatus r s).px = s.px ∧
    (takeUpStatus r s).pq = s.pq ∧ (takeUpStatus r s).fs = s.fs ∧ (takeUpStatus r s).pt = s.pt ∧
    (takeUpStatus r s).cl = s.cl ∧ (takeUpStatus r s).zr = s.zr ∧ (takeUpStatus r s).da = s.da ∧
    (takeUpStatus r s).sg = s.sg ∧ (takeUpStatus r s).sc = s.sc ∧
    (takeUpStatus r s).tc.current = s.tc.current ∧ (takeUpStatus r s).tc.currentPiece = s.tc.currentPiece ∧
    (takeUpStatus r s).tc.lastOrder = s.tc.lastOrder ∧ (takeUpStatus r s).lc = s.lc := by
  unfold takeUpStatus
  try dsimp only
  (repeat' split) <;> simp

/-- What `raiseVerdict` leaves unchanged. -/
@[simp] theorem raiseVerdict_frame (v : Verdict) (s : State) :
    (raiseVerdict v s).pending = s.pending ∧ (raiseVerdict v s).clock = s.clock ∧
    (raiseVerdict v s).rp = s.rp ∧ (raiseVerdict v s).act = s.act ∧ (raiseVerdict v s).nm = s.nm ∧
    (raiseVerdict v s).mu.openWrite = s.mu.openWrite ∧ (raiseVerdict v s).px = s.px ∧
    (raiseVerdict v s).pq = s.pq ∧ (raiseVerdict v s).fs = s.fs ∧ (raiseVerdict v s).pt = s.pt ∧
    (raiseVerdict v s).cl = s.cl ∧ (raiseVerdict v s).zr = s.zr ∧ (raiseVerdict v s).da = s.da ∧
    (raiseVerdict v s).sg = s.sg ∧ (raiseVerdict v s).sc = s.sc ∧ (raiseVerdict v s).tc = s.tc ∧
    (raiseVerdict v s).lc = s.lc := by
  unfold raiseVerdict
  try dsimp only
  (repeat' split) <;> simp

/-- What `doseRetire` leaves unchanged. -/
@[simp] theorem doseRetire_frame (c : BeltCell) (s : State) :
    (doseRetire c s).pending = s.pending ∧ (doseRetire c s).clock = s.clock ∧ (doseRetire c s).rp = s.rp ∧
    (doseRetire c s).act = s.act ∧ (doseRetire c s).nm = s.nm ∧
    (doseRetire c s).mu.openWrite = s.mu.openWrite ∧ (doseRetire c s).px = s.px ∧
    (doseRetire c s).pq.slots = s.pq.slots ∧ (doseRetire c s).pq.runList = s.pq.runList ∧
    (doseRetire c s).pq.nextId = s.pq.nextId ∧ (doseRetire c s).fs = s.fs ∧ (doseRetire c s).pt = s.pt ∧
    (doseRetire c s).cl = s.cl ∧ (doseRetire c s).zr = s.zr ∧ (doseRetire c s).da = s.da ∧
    (doseRetire c s).sg = s.sg ∧ (doseRetire c s).sc = s.sc ∧ (doseRetire c s).tc = s.tc ∧
    (doseRetire c s).lc = s.lc := by
  unfold doseRetire
  try dsimp only
  (repeat' split) <;> simp

/-- What `forgetPiece` leaves unchanged. -/
@[simp] theorem forgetPiece_frame (id : Nat) (s : State) :
    (forgetPiece id s).pending = s.pending ∧ (forgetPiece id s).clock = s.clock ∧
    (forgetPiece id s).rp = s.rp ∧ (forgetPiece id s).act = s.act ∧ (forgetPiece id s).nm = s.nm ∧
    (forgetPiece id s).mu.openWrite = s.mu.openWrite ∧ (forgetPiece id s).px = s.px ∧
    (forgetPiece id s).pq = s.pq ∧ (forgetPiece id s).fs = s.fs ∧ (forgetPiece id s).pt = s.pt ∧
    (forgetPiece id s).zr = s.zr ∧ (forgetPiece id s).da = s.da ∧ (forgetPiece id s).sg = s.sg ∧
    (forgetPiece id s).sc = s.sc ∧ (forgetPiece id s).tc = s.tc ∧ (forgetPiece id s).lc = s.lc := by
  unfold forgetPiece
  try dsimp only
  (repeat' split) <;> simp

/-- What `removeHead` leaves unchanged. -/
@[simp] theorem removeHead_frame (p : Piece) (s : State) :
    (removeHead p s).pending = s.pending ∧ (removeHead p s).clock = s.clock ∧ (removeHead p s).rp = s.rp ∧
    (removeHead p s).nm = s.nm ∧ (removeHead p s).mu.openWrite = s.mu.openWrite ∧
    (removeHead p s).px.mem = s.px.mem ∧ (removeHead p s).px.clearing = s.px.clearing ∧
    (removeHead p s).fs.formed = s.fs.formed ∧ (removeHead p s).pt.nextBoundary = s.pt.nextBoundary ∧
    (removeHead p s).da = s.da ∧ (removeHead p s).sg.exitMark = s.sg.exitMark ∧
    (removeHead p s).sc.unwindA = s.sc.unwindA ∧ (removeHead p s).sc.unwindB = s.sc.unwindB ∧
    (removeHead p s).sc.lastStatus = s.sc.lastStatus ∧ (removeHead p s).tc = s.tc ∧
    (removeHead p s).lc.cause = s.lc.cause ∧ (removeHead p s).lc.further = s.lc.further ∧
    (removeHead p s).lc.clearPending = s.lc.clearPending ∧ (removeHead p s).lc.record = s.lc.record ∧
    (removeHead p s).lc.valid = s.lc.valid := by
  unfold removeHead
  try dsimp only
  (repeat' split) <;> simp

/-- What `testHead` leaves unchanged. -/
@[simp] theorem testHead_frame (fuel : Nat) (c : Position) (s : State) :
    (testHead fuel c s).pending = s.pending ∧ (testHead fuel c s).clock = s.clock ∧
    (testHead fuel c s).rp = s.rp ∧ (testHead fuel c s).nm = s.nm ∧
    (testHead fuel c s).mu.openWrite = s.mu.openWrite ∧ (testHead fuel c s).px.mem = s.px.mem ∧
    (testHead fuel c s).px.clearing = s.px.clearing ∧ (testHead fuel c s).fs.formed = s.fs.formed ∧
    (testHead fuel c s).pt.nextBoundary = s.pt.nextBoundary ∧ (testHead fuel c s).da = s.da ∧
    (testHead fuel c s).sg.exitMark = s.sg.exitMark ∧ (testHead fuel c s).sc.unwindA = s.sc.unwindA ∧
    (testHead fuel c s).sc.unwindB = s.sc.unwindB ∧ (testHead fuel c s).sc.lastStatus = s.sc.lastStatus ∧
    (testHead fuel c s).tc = s.tc ∧ (testHead fuel c s).lc.cause = s.lc.cause ∧
    (testHead fuel c s).lc.further = s.lc.further ∧ (testHead fuel c s).lc.clearPending = s.lc.clearPending ∧
    (testHead fuel c s).lc.record = s.lc.record ∧ (testHead fuel c s).lc.valid = s.lc.valid := by
  induction fuel generalizing s with
  | zero => simp [testHead]
  | succ n ih =>
    unfold testHead
    try dsimp only
    (repeat' split) <;> simp_all

/-- What `retireCell` leaves unchanged. -/
@[simp] theorem retireCell_frame (c : BeltCell) (s : State) :
    (retireCell c s).pending = s.pending ∧ (retireCell c s).clock = s.clock ∧ (retireCell c s).rp = s.rp ∧
    (retireCell c s).nm = s.nm ∧ (retireCell c s).mu.openWrite = s.mu.openWrite ∧
    (retireCell c s).px.mem = s.px.mem ∧ (retireCell c s).px.clearing = s.px.clearing ∧
    (retireCell c s).fs.formed = s.fs.formed ∧ (retireCell c s).pt.nextBoundary = s.pt.nextBoundary ∧
    (retireCell c s).da = s.da ∧ (retireCell c s).sg.exitMark = s.sg.exitMark ∧
    (retireCell c s).sc.unwindA = s.sc.unwindA ∧ (retireCell c s).sc.unwindB = s.sc.unwindB ∧
    (retireCell c s).sc.lastStatus = s.sc.lastStatus ∧ (retireCell c s).tc.diameter = s.tc.diameter ∧
    (retireCell c s).tc.lastStatus = s.tc.lastStatus ∧ (retireCell c s).lc.cause = s.lc.cause ∧
    (retireCell c s).lc.further = s.lc.further ∧ (retireCell c s).lc.clearPending = s.lc.clearPending ∧
    (retireCell c s).lc.record = s.lc.record ∧ (retireCell c s).lc.valid = s.lc.valid := by
  unfold retireCell
  try dsimp only
  (repeat' split) <;> simp

/-- What `retireCells` leaves unchanged. -/
@[simp] theorem retireCells_frame (fuel : Nat) (s : State) :
    (retireCells fuel s).pending = s.pending ∧ (retireCells fuel s).clock = s.clock ∧
    (retireCells fuel s).rp = s.rp ∧ (retireCells fuel s).nm = s.nm ∧
    (retireCells fuel s).mu.openWrite = s.mu.openWrite ∧ (retireCells fuel s).px.mem = s.px.mem ∧
    (retireCells fuel s).px.clearing = s.px.clearing ∧ (retireCells fuel s).fs.formed = s.fs.formed ∧
    (retireCells fuel s).pt.nextBoundary = s.pt.nextBoundary ∧ (retireCells fuel s).da = s.da ∧
    (retireCells fuel s).sg.exitMark = s.sg.exitMark ∧ (retireCells fuel s).sc.unwindA = s.sc.unwindA ∧
    (retireCells fuel s).sc.unwindB = s.sc.unwindB ∧ (retireCells fuel s).sc.lastStatus = s.sc.lastStatus ∧
    (retireCells fuel s).tc.diameter = s.tc.diameter ∧ (retireCells fuel s).tc.lastStatus = s.tc.lastStatus ∧
    (retireCells fuel s).lc.cause = s.lc.cause ∧ (retireCells fuel s).lc.further = s.lc.further ∧
    (retireCells fuel s).lc.clearPending = s.lc.clearPending ∧ (retireCells fuel s).lc.record = s.lc.record ∧
    (retireCells fuel s).lc.valid = s.lc.valid := by
  induction fuel generalizing s with
  | zero => simp [retireCells]
  | succ n ih =>
    unfold retireCells
    try dsimp only
    (repeat' split) <;> simp_all

/-- What `createCell` leaves unchanged. -/
@[simp] theorem createCell_frame (s : State) :
    (createCell s).pending = s.pending ∧ (createCell s).clock = s.clock ∧ (createCell s).rp = s.rp ∧
    (createCell s).act = s.act ∧ (createCell s).nm = s.nm ∧ (createCell s).mu.openWrite = s.mu.openWrite ∧
    (createCell s).px = s.px ∧ (createCell s).pq = s.pq ∧ (createCell s).fs = s.fs ∧ (createCell s).pt = s.pt ∧
    (createCell s).zr = s.zr ∧ (createCell s).da = s.da ∧ (createCell s).sg = s.sg ∧ (createCell s).sc = s.sc ∧
    (createCell s).tc = s.tc ∧ (createCell s).lc = s.lc := by
  unfold createCell
  try dsimp only
  (repeat' split) <;> simp

/-- What `governAdvance` leaves unchanged. -/
@[simp] theorem governAdvance_frame (exit : Option Position) (s : State) :
    (governAdvance exit s).pending = s.pending ∧ (governAdvance exit s).clock = s.clock ∧
    (governAdvance exit s).rp = s.rp ∧ (governAdvance exit s).nm = s.nm ∧
    (governAdvance exit s).mu.openWrite = s.mu.openWrite ∧ (governAdvance exit s).px = s.px ∧
    (governAdvance exit s).pq = s.pq ∧ (governAdvance exit s).fs.state = s.fs.state ∧
    (governAdvance exit s).fs.cursor = s.fs.cursor ∧ (governAdvance exit s).fs.formed = s.fs.formed ∧
    (governAdvance exit s).pt = s.pt ∧ (governAdvance exit s).cl = s.cl ∧ (governAdvance exit s).zr = s.zr ∧
    (governAdvance exit s).da = s.da ∧ (governAdvance exit s).sc = s.sc ∧ (governAdvance exit s).tc = s.tc ∧
    (governAdvance exit s).lc = s.lc := by
  unfold governAdvance
  try dsimp only
  (repeat' split) <;> simp

/-- What `markStaleZones` leaves unchanged. -/
@[simp] theorem markStaleZones_frame (s : State) :
    (markStaleZones s).pending = s.pending ∧ (markStaleZones s).clock = s.clock ∧
    (markStaleZones s).rp = s.rp ∧ (markStaleZones s).act = s.act ∧ (markStaleZones s).report = s.report ∧
    (markStaleZones s).nm = s.nm ∧ (markStaleZones s).mu = s.mu ∧ (markStaleZones s).px = s.px ∧
    (markStaleZones s).pq = s.pq ∧ (markStaleZones s).fs = s.fs ∧ (markStaleZones s).pt = s.pt ∧
    (markStaleZones s).zr = s.zr ∧ (markStaleZones s).da = s.da ∧ (markStaleZones s).sg = s.sg ∧
    (markStaleZones s).sc = s.sc ∧ (markStaleZones s).tc = s.tc ∧ (markStaleZones s).lc = s.lc := by
  unfold markStaleZones
  try dsimp only
  (repeat' split) <;> simp

/-- What `ageCells` leaves unchanged. -/
@[simp] theorem ageCells_frame (s : State) :
    (ageCells s).pending = s.pending ∧ (ageCells s).clock = s.clock ∧ (ageCells s).rp = s.rp ∧
    (ageCells s).act = s.act ∧ (ageCells s).report = s.report ∧ (ageCells s).nm = s.nm ∧
    (ageCells s).mu = s.mu ∧ (ageCells s).px = s.px ∧ (ageCells s).pq = s.pq ∧ (ageCells s).fs = s.fs ∧
    (ageCells s).pt = s.pt ∧ (ageCells s).zr = s.zr ∧ (ageCells s).da = s.da ∧ (ageCells s).sg = s.sg ∧
    (ageCells s).sc = s.sc ∧ (ageCells s).tc = s.tc ∧ (ageCells s).lc = s.lc := by
  unfold ageCells
  try dsimp only
  (repeat' split) <;> simp

/-- What `beltAdvance` leaves unchanged. -/
@[simp] theorem beltAdvance_frame (s : State) :
    (beltAdvance s).pending = s.pending ∧ (beltAdvance s).clock = s.clock ∧ (beltAdvance s).rp = s.rp ∧
    (beltAdvance s).nm = s.nm ∧ (beltAdvance s).mu.openWrite = s.mu.openWrite ∧
    (beltAdvance s).px.mem = s.px.mem ∧ (beltAdvance s).px.clearing = s.px.clearing ∧
    (beltAdvance s).fs.formed = s.fs.formed ∧ (beltAdvance s).pt.nextBoundary = s.pt.nextBoundary ∧
    (beltAdvance s).da = s.da ∧ (beltAdvance s).sc.unwindA = s.sc.unwindA ∧
    (beltAdvance s).sc.unwindB = s.sc.unwindB ∧ (beltAdvance s).sc.lastStatus = s.sc.lastStatus ∧
    (beltAdvance s).tc.diameter = s.tc.diameter ∧ (beltAdvance s).tc.lastStatus = s.tc.lastStatus ∧
    (beltAdvance s).lc.cause = s.lc.cause ∧ (beltAdvance s).lc.further = s.lc.further ∧
    (beltAdvance s).lc.clearPending = s.lc.clearPending ∧ (beltAdvance s).lc.record = s.lc.record ∧
    (beltAdvance s).lc.valid = s.lc.valid := by
  unfold beltAdvance
  try dsimp only
  (repeat' split) <;> simp

/-- What `setEncoder` leaves unchanged. -/
@[simp] theorem setEncoder_frame (e : Encoder) (r : EncoderRecord) (s : State) :
    (setEncoder e r s).pending = s.pending ∧ (setEncoder e r s).clock = s.clock ∧
    (setEncoder e r s).rp = s.rp ∧ (setEncoder e r s).act = s.act ∧ (setEncoder e r s).report = s.report ∧
    (setEncoder e r s).nm = s.nm ∧ (setEncoder e r s).mu = s.mu ∧ (setEncoder e r s).px = s.px ∧
    (setEncoder e r s).pq = s.pq ∧ (setEncoder e r s).fs = s.fs ∧
    (setEncoder e r s).pt.nextBoundary = s.pt.nextBoundary ∧ (setEncoder e r s).cl = s.cl ∧
    (setEncoder e r s).zr = s.zr ∧ (setEncoder e r s).da = s.da ∧ (setEncoder e r s).sg = s.sg ∧
    (setEncoder e r s).sc = s.sc ∧ (setEncoder e r s).tc = s.tc ∧ (setEncoder e r s).lc = s.lc := by
  unfold setEncoder
  try dsimp only
  (repeat' split) <;> simp

/-- What `infeedEvent` leaves unchanged. -/
@[simp] theorem infeedEvent_frame (x : Position) (s : State) :
    (infeedEvent x s).pending = s.pending ∧ (infeedEvent x s).clock = s.clock ∧ (infeedEvent x s).rp = s.rp ∧
    (infeedEvent x s).nm = s.nm ∧ (infeedEvent x s).mu.openWrite = s.mu.openWrite ∧
    (infeedEvent x s).px.mem = s.px.mem ∧ (infeedEvent x s).px.clearing = s.px.clearing ∧
    (infeedEvent x s).pt.nextBoundary = s.pt.nextBoundary ∧ (infeedEvent x s).da = s.da ∧
    (infeedEvent x s).sg.exitMark = s.sg.exitMark ∧ (infeedEvent x s).sc.unwindA = s.sc.unwindA ∧
    (infeedEvent x s).sc.unwindB = s.sc.unwindB ∧ (infeedEvent x s).sc.lastStatus = s.sc.lastStatus ∧
    (infeedEvent x s).tc = s.tc ∧ (infeedEvent x s).lc.cause = s.lc.cause ∧
    (infeedEvent x s).lc.further = s.lc.further ∧ (infeedEvent x s).lc.clearPending = s.lc.clearPending ∧
    (infeedEvent x s).lc.record = s.lc.record ∧ (infeedEvent x s).lc.valid = s.lc.valid := by
  unfold infeedEvent
  try dsimp only
  (repeat' split) <;> simp

/-- What `beltAdvances` leaves unchanged. -/
@[simp] theorem beltAdvances_frame (n : Nat) (s : State) :
    (beltAdvances n s).pending = s.pending ∧ (beltAdvances n s).clock = s.clock ∧
    (beltAdvances n s).rp = s.rp ∧ (beltAdvances n s).nm = s.nm ∧
    (beltAdvances n s).mu.openWrite = s.mu.openWrite ∧ (beltAdvances n s).px.mem = s.px.mem ∧
    (beltAdvances n s).px.clearing = s.px.clearing ∧ (beltAdvances n s).fs.formed = s.fs.formed ∧
    (beltAdvances n s).da = s.da ∧ (beltAdvances n s).sc.unwindA = s.sc.unwindA ∧
    (beltAdvances n s).sc.unwindB = s.sc.unwindB ∧ (beltAdvances n s).sc.lastStatus = s.sc.lastStatus ∧
    (beltAdvances n s).tc.diameter = s.tc.diameter ∧ (beltAdvances n s).tc.lastStatus = s.tc.lastStatus ∧
    (beltAdvances n s).lc.cause = s.lc.cause ∧ (beltAdvances n s).lc.further = s.lc.further ∧
    (beltAdvances n s).lc.clearPending = s.lc.clearPending ∧ (beltAdvances n s).lc.record = s.lc.record ∧
    (beltAdvances n s).lc.valid = s.lc.valid := by
  induction n generalizing s with
  | zero => simp [beltAdvances]
  | succ n ih =>
    unfold beltAdvances
    try dsimp only
    (repeat' split) <;> simp_all

/-- What `takeInfeedSample` leaves unchanged. -/
@[simp] theorem takeInfeedSample_frame (x : Sample) (s : State) :
    (takeInfeedSample x s).pending = s.pending ∧ (takeInfeedSample x s).clock = s.clock ∧
    (takeInfeedSample x s).rp = s.rp ∧ (takeInfeedSample x s).nm = s.nm ∧
    (takeInfeedSample x s).mu.openWrite = s.mu.openWrite ∧ (takeInfeedSample x s).px.mem = s.px.mem ∧
    (takeInfeedSample x s).px.clearing = s.px.clearing ∧
    (takeInfeedSample x s).pt.nextBoundary = s.pt.nextBoundary ∧ (takeInfeedSample x s).da = s.da ∧
    (takeInfeedSample x s).sg.exitMark = s.sg.exitMark ∧ (takeInfeedSample x s).sc.unwindA = s.sc.unwindA ∧
    (takeInfeedSample x s).sc.unwindB = s.sc.unwindB ∧ (takeInfeedSample x s).sc.lastStatus = s.sc.lastStatus ∧
    (takeInfeedSample x s).tc = s.tc ∧ (takeInfeedSample x s).lc.record = s.lc.record ∧
    (takeInfeedSample x s).lc.valid = s.lc.valid := by
  unfold takeInfeedSample
  try dsimp only
  (repeat' split) <;> simp

/-- What `takeBeltSample` leaves unchanged. -/
@[simp] theorem takeBeltSample_frame (x : Sample) (s : State) :
    (takeBeltSample x s).pending = s.pending ∧ (takeBeltSample x s).clock = s.clock ∧
    (takeBeltSample x s).rp = s.rp ∧ (takeBeltSample x s).nm = s.nm ∧
    (takeBeltSample x s).mu.openWrite = s.mu.openWrite ∧ (takeBeltSample x s).px.mem = s.px.mem ∧
    (takeBeltSample x s).px.clearing = s.px.clearing ∧ (takeBeltSample x s).fs.formed = s.fs.formed ∧
    (takeBeltSample x s).da = s.da ∧ (takeBeltSample x s).sc.unwindA = s.sc.unwindA ∧
    (takeBeltSample x s).sc.unwindB = s.sc.unwindB ∧ (takeBeltSample x s).sc.lastStatus = s.sc.lastStatus ∧
    (takeBeltSample x s).tc.diameter = s.tc.diameter ∧ (takeBeltSample x s).tc.lastStatus = s.tc.lastStatus ∧
    (takeBeltSample x s).lc.record = s.lc.record ∧ (takeBeltSample x s).lc.valid = s.lc.valid := by
  unfold takeBeltSample
  try dsimp only
  (repeat' split) <;> simp

/-- What `expireEncoder` leaves unchanged. -/
@[simp] theorem expireEncoder_frame (e : Encoder) (s : State) :
    (expireEncoder e s).pending = s.pending ∧ (expireEncoder e s).clock = s.clock ∧
    (expireEncoder e s).rp = s.rp ∧ (expireEncoder e s).nm = s.nm ∧
    (expireEncoder e s).mu.openWrite = s.mu.openWrite ∧ (expireEncoder e s).px.mem = s.px.mem ∧
    (expireEncoder e s).px.clearing = s.px.clearing ∧ (expireEncoder e s).fs.cursor = s.fs.cursor ∧
    (expireEncoder e s).fs.formed = s.fs.formed ∧ (expireEncoder e s).pt.nextBoundary = s.pt.nextBoundary ∧
    (expireEncoder e s).da = s.da ∧ (expireEncoder e s).sg.exitMark = s.sg.exitMark ∧
    (expireEncoder e s).sc.unwindA = s.sc.unwindA ∧ (expireEncoder e s).sc.unwindB = s.sc.unwindB ∧
    (expireEncoder e s).sc.lastStatus = s.sc.lastStatus ∧ (expireEncoder e s).tc = s.tc ∧
    (expireEncoder e s).lc.record = s.lc.record ∧ (expireEncoder e s).lc.valid = s.lc.valid := by
  unfold expireEncoder
  try dsimp only
  (repeat' split) <;> simp

end Sys2Proof.Machine
end

