-- ==== Sys2Proof/Laws/Frames4.lean ====
section
/-! SUPPORT. What each shared operation leaves unchanged, once for each: table writes, requests, samples and the ring port. -/
namespace Sys2Proof.Machine

/-- What an entry stored by `takePattern` leaves unchanged. -/
theorem takePattern_frame {index : Nat} {bs : List Byte} {s u : State} (h : takePattern index bs s = .stored u) :
    (u).pending = s.pending ∧ (u).clock = s.clock ∧ (u).rp = s.rp ∧ (u).act = s.act ∧ (u).report = s.report ∧
    (u).nm = s.nm ∧ (u).mu = s.mu ∧ (u).px.clearing = s.px.clearing ∧ (u).px.lookaside = s.px.lookaside ∧
    (u).px.pointer = s.px.pointer ∧ (u).pq = s.pq ∧ (u).fs = s.fs ∧ (u).pt = s.pt ∧ (u).cl = s.cl ∧
    (u).zr = s.zr ∧ (u).da = s.da ∧ (u).sg = s.sg ∧ (u).sc = s.sc ∧ (u).tc = s.tc ∧ (u).lc = s.lc := by
  unfold takePattern at h
  try dsimp only at h
  (repeat' split at h) <;> cases h <;> simp

/-- What an entry stored by `takeNode` leaves unchanged. -/
theorem takeNode_frame {index : Fin 64} {bs : List Byte} {s u : State} (h : takeNode index bs s = .stored u) :
    (u).pending = s.pending ∧ (u).clock = s.clock ∧ (u).rp = s.rp ∧ (u).act = s.act ∧ (u).report = s.report ∧
    (u).mu = s.mu ∧ (u).px = s.px ∧ (u).pq = s.pq ∧ (u).fs = s.fs ∧ (u).pt = s.pt ∧ (u).cl = s.cl ∧
    (u).zr = s.zr ∧ (u).da = s.da ∧ (u).sg = s.sg ∧ (u).sc = s.sc ∧ (u).tc = s.tc ∧ (u).lc = s.lc := by
  unfold takeNode at h
  try dsimp only at h
  (repeat' split at h) <;> cases h <;> simp

/-- What an entry stored by `takeClass` leaves unchanged. -/
theorem takeClass_frame {index : Fin 16} {bs : List Byte} {s u : State} (h : takeClass index bs s = .stored u) :
    (u).pending = s.pending ∧ (u).clock = s.clock ∧ (u).rp = s.rp ∧ (u).nm = s.nm ∧
    (u).mu.openWrite = s.mu.openWrite ∧ (u).px = s.px ∧ (u).pq = s.pq ∧ (u).fs.state = s.fs.state ∧
    (u).fs.cursor = s.fs.cursor ∧ (u).fs.formed = s.fs.formed ∧ (u).pt = s.pt ∧ (u).cl = s.cl ∧ (u).zr = s.zr ∧
    (u).da.lastAccrual = s.da.lastAccrual ∧ (u).sg.exitMark = s.sg.exitMark ∧ (u).sc = s.sc ∧ (u).tc = s.tc ∧
    (u).lc = s.lc := by
  unfold takeClass at h
  try dsimp only at h
  (repeat' split at h) <;> cases h <;> simp

/-- What an entry stored by `takeZone` leaves unchanged. -/
theorem takeZone_frame {index : Fin 8} {bs : List Byte} {s u : State} (h : takeZone index bs s = .stored u) :
    (u).pending = s.pending ∧ (u).clock = s.clock ∧ (u).rp = s.rp ∧ (u).nm = s.nm ∧
    (u).mu.openWrite = s.mu.openWrite ∧ (u).px = s.px ∧ (u).pq = s.pq ∧ (u).fs.state = s.fs.state ∧
    (u).fs.cursor = s.fs.cursor ∧ (u).fs.formed = s.fs.formed ∧ (u).pt = s.pt ∧ (u).da = s.da ∧
    (u).sg.exitMark = s.sg.exitMark ∧ (u).sc = s.sc ∧ (u).tc = s.tc ∧ (u).lc = s.lc := by
  unfold takeZone at h
  try dsimp only at h
  (repeat' split at h) <;> cases h <;> simp

/-- What `storeLine` leaves unchanged. -/
@[simp] theorem storeLine_frame (r : LineRecord) (s : State) :
    (storeLine r s).pending = s.pending ∧ (storeLine r s).clock = s.clock ∧ (storeLine r s).rp = s.rp ∧
    (storeLine r s).nm = s.nm ∧ (storeLine r s).mu.openWrite = s.mu.openWrite ∧
    (storeLine r s).px.mem = s.px.mem ∧ (storeLine r s).px.clearing = s.px.clearing ∧
    (storeLine r s).fs.state = s.fs.state ∧ (storeLine r s).fs.cursor = s.fs.cursor ∧
    (storeLine r s).fs.formed = s.fs.formed ∧ (storeLine r s).pt = s.pt ∧ (storeLine r s).zr = s.zr ∧
    (storeLine r s).da = s.da ∧ (storeLine r s).sg.exitMark = s.sg.exitMark ∧
    (storeLine r s).sc.unwindA = s.sc.unwindA ∧ (storeLine r s).sc.unwindB = s.sc.unwindB ∧
    (storeLine r s).sc.lastStatus = s.sc.lastStatus ∧ (storeLine r s).tc.diameter = s.tc.diameter ∧
    (storeLine r s).tc.lastStatus = s.tc.lastStatus ∧ (storeLine r s).tc.current = s.tc.current ∧
    (storeLine r s).tc.closing = s.tc.closing ∧ (storeLine r s).tc.currentPiece = s.tc.currentPiece ∧
    (storeLine r s).tc.lastOrder = s.tc.lastOrder ∧ (storeLine r s).tc.heldOrder = s.tc.heldOrder ∧
    (storeLine r s).tc.stateTime = s.tc.stateTime ∧ (storeLine r s).tc.timeoutTaken = s.tc.timeoutTaken ∧
    (storeLine r s).lc.line = s.lc.line ∧ (storeLine r s).lc.cause = s.lc.cause ∧
    (storeLine r s).lc.further = s.lc.further ∧ (storeLine r s).lc.clearPending = s.lc.clearPending ∧
    (storeLine r s).lc.restCount = s.lc.restCount := by
  unfold storeLine
  try dsimp only
  (repeat' split) <;> simp

/-- What an entry stored by `takeLine` leaves unchanged. -/
theorem takeLine_frame {bs : List Byte} {s u : State} (h : takeLine bs s = .stored u) :
    (u).pending = s.pending ∧ (u).clock = s.clock ∧ (u).rp = s.rp ∧ (u).nm = s.nm ∧
    (u).mu.openWrite = s.mu.openWrite ∧ (u).px.mem = s.px.mem ∧ (u).px.clearing = s.px.clearing ∧
    (u).fs.state = s.fs.state ∧ (u).fs.cursor = s.fs.cursor ∧ (u).fs.formed = s.fs.formed ∧ (u).pt = s.pt ∧
    (u).zr = s.zr ∧ (u).da = s.da ∧ (u).sg.exitMark = s.sg.exitMark ∧ (u).sc.unwindA = s.sc.unwindA ∧
    (u).sc.unwindB = s.sc.unwindB ∧ (u).sc.lastStatus = s.sc.lastStatus ∧ (u).tc.diameter = s.tc.diameter ∧
    (u).tc.lastStatus = s.tc.lastStatus ∧ (u).tc.current = s.tc.current ∧ (u).tc.closing = s.tc.closing ∧
    (u).tc.currentPiece = s.tc.currentPiece ∧ (u).tc.lastOrder = s.tc.lastOrder ∧
    (u).tc.heldOrder = s.tc.heldOrder ∧ (u).tc.stateTime = s.tc.stateTime ∧
    (u).tc.timeoutTaken = s.tc.timeoutTaken ∧ (u).lc.line = s.lc.line ∧ (u).lc.cause = s.lc.cause ∧
    (u).lc.further = s.lc.further ∧ (u).lc.clearPending = s.lc.clearPending ∧ (u).lc.restCount = s.lc.restCount := by
  unfold takeLine at h
  try dsimp only at h
  (repeat' split at h) <;> cases h <;> simp

/-- What an entry stored by `takeOrder` leaves unchanged. -/
theorem takeOrder_frame {index : Fin 8} {bs : List Byte} {s u : State} (h : takeOrder index bs s = .stored u) :
    (u).pending = s.pending ∧ (u).clock = s.clock ∧ (u).rp = s.rp ∧ (u).act = s.act ∧ (u).report = s.report ∧
    (u).nm = s.nm ∧ (u).mu = s.mu ∧ (u).px = s.px ∧ (u).pq.runList = s.pq.runList ∧
    (u).pq.pieces = s.pq.pieces ∧ (u).pq.nextId = s.pq.nextId ∧ (u).fs = s.fs ∧ (u).pt = s.pt ∧ (u).cl = s.cl ∧
    (u).zr = s.zr ∧ (u).da = s.da ∧ (u).sg = s.sg ∧ (u).sc = s.sc ∧ (u).tc = s.tc ∧ (u).lc = s.lc := by
  unfold takeOrder at h
  try dsimp only at h
  (repeat' split at h) <;> cases h <;> simp

/-- What a stored entry leaves unchanged, whatever its table. -/
theorem takeEntry_frame {t : Table} {index : Nat} {bs : List Byte} {s u : State} (h : takeEntry t index bs s = .stored u) :
    (u).pending = s.pending ∧ (u).clock = s.clock ∧ (u).rp = s.rp ∧ (u).mu.openWrite = s.mu.openWrite ∧
    (u).px.clearing = s.px.clearing ∧ (u).fs.state = s.fs.state ∧ (u).fs.cursor = s.fs.cursor ∧
    (u).fs.formed = s.fs.formed ∧ (u).pt = s.pt ∧ (u).da.lastAccrual = s.da.lastAccrual ∧
    (u).sg.exitMark = s.sg.exitMark ∧ (u).sc.unwindA = s.sc.unwindA ∧ (u).sc.unwindB = s.sc.unwindB ∧
    (u).sc.lastStatus = s.sc.lastStatus ∧ (u).tc.diameter = s.tc.diameter ∧
    (u).tc.lastStatus = s.tc.lastStatus ∧ (u).tc.current = s.tc.current ∧ (u).tc.closing = s.tc.closing ∧
    (u).tc.currentPiece = s.tc.currentPiece ∧ (u).tc.lastOrder = s.tc.lastOrder ∧
    (u).tc.heldOrder = s.tc.heldOrder ∧ (u).tc.stateTime = s.tc.stateTime ∧
    (u).tc.timeoutTaken = s.tc.timeoutTaken ∧ (u).lc.line = s.lc.line ∧ (u).lc.cause = s.lc.cause ∧
    (u).lc.further = s.lc.further ∧ (u).lc.clearPending = s.lc.clearPending ∧ (u).lc.restCount = s.lc.restCount := by
  cases t <;> simp only [takeEntry] at h
  · simp [takePattern_frame h]
  · simp [takeNode_frame h]
  · simp [takeClass_frame h]
  · simp [takeZone_frame h]
  · simp [takeLine_frame h]
  · simp [takeOrder_frame h]

/-- What `takeEntries` leaves unchanged. -/
@[simp] theorem takeEntries_frame (n : Nat) (w : OpenWrite) (bs : List Byte) (s : State) :
    ((takeEntries n w bs s).1).pending = s.pending ∧ ((takeEntries n w bs s).1).clock = s.clock ∧
    ((takeEntries n w bs s).1).rp = s.rp ∧ ((takeEntries n w bs s).1).mu.openWrite = s.mu.openWrite ∧
    ((takeEntries n w bs s).1).px.clearing = s.px.clearing ∧ ((takeEntries n w bs s).1).fs.state = s.fs.state ∧
    ((takeEntries n w bs s).1).fs.cursor = s.fs.cursor ∧ ((takeEntries n w bs s).1).fs.formed = s.fs.formed ∧
    ((takeEntries n w bs s).1).pt = s.pt ∧ ((takeEntries n w bs s).1).da.lastAccrual = s.da.lastAccrual ∧
    ((takeEntries n w bs s).1).sg.exitMark = s.sg.exitMark ∧
    ((takeEntries n w bs s).1).sc.unwindA = s.sc.unwindA ∧
    ((takeEntries n w bs s).1).sc.unwindB = s.sc.unwindB ∧
    ((takeEntries n w bs s).1).sc.lastStatus = s.sc.lastStatus ∧
    ((takeEntries n w bs s).1).tc.diameter = s.tc.diameter ∧
    ((takeEntries n w bs s).1).tc.lastStatus = s.tc.lastStatus ∧
    ((takeEntries n w bs s).1).tc.current = s.tc.current ∧
    ((takeEntries n w bs s).1).tc.closing = s.tc.closing ∧
    ((takeEntries n w bs s).1).tc.currentPiece = s.tc.currentPiece ∧
    ((takeEntries n w bs s).1).tc.lastOrder = s.tc.lastOrder ∧
    ((takeEntries n w bs s).1).tc.heldOrder = s.tc.heldOrder ∧
    ((takeEntries n w bs s).1).tc.stateTime = s.tc.stateTime ∧
    ((takeEntries n w bs s).1).tc.timeoutTaken = s.tc.timeoutTaken ∧
    ((takeEntries n w bs s).1).lc.line = s.lc.line ∧ ((takeEntries n w bs s).1).lc.cause = s.lc.cause ∧
    ((takeEntries n w bs s).1).lc.further = s.lc.further ∧
    ((takeEntries n w bs s).1).lc.clearPending = s.lc.clearPending ∧
    ((takeEntries n w bs s).1).lc.restCount = s.lc.restCount := by
  induction n generalizing w bs s with
  | zero => simp [takeEntries]
  | succ n ih =>
    unfold takeEntries
    split
    · simp
    · split
      · simp
      · split
        · simp
        · rename_i heq
          have h := takeEntry_frame heq
          dsimp only
          split
          · simp [h]
          · simp [ih, h]

/-- What `setOpenWrite` leaves unchanged. -/
@[simp] theorem setOpenWrite_frame (w : Option OpenWrite) (s : State) :
    (setOpenWrite w s).pending = s.pending ∧ (setOpenWrite w s).clock = s.clock ∧
    (setOpenWrite w s).rp = s.rp ∧ (setOpenWrite w s).act = s.act ∧ (setOpenWrite w s).report = s.report ∧
    (setOpenWrite w s).nm = s.nm ∧ (setOpenWrite w s).mu.flags = s.mu.flags ∧ (setOpenWrite w s).px = s.px ∧
    (setOpenWrite w s).pq = s.pq ∧ (setOpenWrite w s).fs = s.fs ∧ (setOpenWrite w s).pt = s.pt ∧
    (setOpenWrite w s).cl = s.cl ∧ (setOpenWrite w s).zr = s.zr ∧ (setOpenWrite w s).da = s.da ∧
    (setOpenWrite w s).sg = s.sg ∧ (setOpenWrite w s).sc = s.sc ∧ (setOpenWrite w s).tc = s.tc ∧
    (setOpenWrite w s).lc = s.lc := by
  unfold setOpenWrite
  try dsimp only
  (repeat' split) <;> simp

/-- What `closeInResponse` leaves unchanged. -/
@[simp] theorem closeInResponse_frame (code : Nat) (rq : Request) (w : OpenWrite) (reason : Reason) (s : State) :
    (closeInResponse code rq w reason s).pending = s.pending ∧
    (closeInResponse code rq w reason s).clock = s.clock ∧ (closeInResponse code rq w reason s).rp = s.rp ∧
    (closeInResponse code rq w reason s).act = s.act ∧ (closeInResponse code rq w reason s).nm = s.nm ∧
    (closeInResponse code rq w reason s).px = s.px ∧ (closeInResponse code rq w reason s).pq = s.pq ∧
    (closeInResponse code rq w reason s).fs = s.fs ∧ (closeInResponse code rq w reason s).pt = s.pt ∧
    (closeInResponse code rq w reason s).cl = s.cl ∧ (closeInResponse code rq w reason s).zr = s.zr ∧
    (closeInResponse code rq w reason s).da = s.da ∧ (closeInResponse code rq w reason s).sg = s.sg ∧
    (closeInResponse code rq w reason s).sc = s.sc ∧ (closeInResponse code rq w reason s).tc = s.tc ∧
    (closeInResponse code rq w reason s).lc = s.lc := by
  unfold closeInResponse
  try dsimp only
  (repeat' split) <;> simp

/-- What `takeFrame` leaves unchanged. -/
@[simp] theorem takeFrame_frame (code : Nat) (rq : Request) (w : OpenWrite) (bs : List Byte) (s : State) :
    (takeFrame code rq w bs s).pending = s.pending ∧ (takeFrame code rq w bs s).clock = s.clock ∧
    (takeFrame code rq w bs s).rp = s.rp ∧ (takeFrame code rq w bs s).px.clearing = s.px.clearing ∧
    (takeFrame code rq w bs s).fs.state = s.fs.state ∧ (takeFrame code rq w bs s).fs.cursor = s.fs.cursor ∧
    (takeFrame code rq w bs s).fs.formed = s.fs.formed ∧ (takeFrame code rq w bs s).pt = s.pt ∧
    (takeFrame code rq w bs s).da.lastAccrual = s.da.lastAccrual ∧
    (takeFrame code rq w bs s).sg.exitMark = s.sg.exitMark ∧
    (takeFrame code rq w bs s).sc.unwindA = s.sc.unwindA ∧
    (takeFrame code rq w bs s).sc.unwindB = s.sc.unwindB ∧
    (takeFrame code rq w bs s).sc.lastStatus = s.sc.lastStatus ∧
    (takeFrame code rq w bs s).tc.diameter = s.tc.diameter ∧
    (takeFrame code rq w bs s).tc.lastStatus = s.tc.lastStatus ∧
    (takeFrame code rq w bs s).tc.current = s.tc.current ∧
    (takeFrame code rq w bs s).tc.closing = s.tc.closing ∧
    (takeFrame code rq w bs s).tc.currentPiece = s.tc.currentPiece ∧
    (takeFrame code rq w bs s).tc.lastOrder = s.tc.lastOrder ∧
    (takeFrame code rq w bs s).tc.heldOrder = s.tc.heldOrder ∧
    (takeFrame code rq w bs s).tc.stateTime = s.tc.stateTime ∧
    (takeFrame code rq w bs s).tc.timeoutTaken = s.tc.timeoutTaken ∧
    (takeFrame code rq w bs s).lc.line = s.lc.line ∧ (takeFrame code rq w bs s).lc.cause = s.lc.cause ∧
    (takeFrame code rq w bs s).lc.further = s.lc.further ∧
    (takeFrame code rq w bs s).lc.clearPending = s.lc.clearPending ∧
    (takeFrame code rq w bs s).lc.restCount = s.lc.restCount := by
  have h := takeEntries_frame 3 w bs s
  unfold takeFrame
  split
  all_goals
    rename_i heq
    rw [heq] at h
    simp only at h
    simp [h]

/-- What `queueClosing` leaves unchanged. -/
@[simp] theorem queueClosing_frame (w : OpenWrite) (reason : Reason) (s : State) :
    (queueClosing w reason s).pending = s.pending ∧ (queueClosing w reason s).clock = s.clock ∧
    (queueClosing w reason s).rp = s.rp ∧ (queueClosing w reason s).act = s.act ∧
    (queueClosing w reason s).nm = s.nm ∧ (queueClosing w reason s).px = s.px ∧
    (queueClosing w reason s).pq = s.pq ∧ (queueClosing w reason s).fs = s.fs ∧
    (queueClosing w reason s).pt = s.pt ∧ (queueClosing w reason s).cl = s.cl ∧
    (queueClosing w reason s).zr = s.zr ∧ (queueClosing w reason s).da = s.da ∧
    (queueClosing w reason s).sg = s.sg ∧ (queueClosing w reason s).sc = s.sc ∧
    (queueClosing w reason s).tc = s.tc ∧ (queueClosing w reason s).lc = s.lc := by
  unfold queueClosing
  try dsimp only
  (repeat' split) <;> simp

/-- What `breakWrite` leaves unchanged. -/
@[simp] theorem breakWrite_frame (src : Byte) (reason : Reason) (s : State) :
    (breakWrite src reason s).pending = s.pending ∧ (breakWrite src reason s).clock = s.clock ∧
    (breakWrite src reason s).rp = s.rp ∧ (breakWrite src reason s).act = s.act ∧
    (breakWrite src reason s).nm = s.nm ∧ (breakWrite src reason s).px = s.px ∧
    (breakWrite src reason s).pq = s.pq ∧ (breakWrite src reason s).fs = s.fs ∧
    (breakWrite src reason s).pt = s.pt ∧ (breakWrite src reason s).cl = s.cl ∧
    (breakWrite src reason s).zr = s.zr ∧ (breakWrite src reason s).da = s.da ∧
    (breakWrite src reason s).sg = s.sg ∧ (breakWrite src reason s).sc = s.sc ∧
    (breakWrite src reason s).tc = s.tc ∧ (breakWrite src reason s).lc = s.lc := by
  unfold breakWrite
  try dsimp only
  (repeat' split) <;> simp

/-- What `serveWrite` leaves unchanged. -/
@[simp] theorem serveWrite_frame (rq : Request) (s : State) :
    (serveWrite rq s).pending = s.pending ∧ (serveWrite rq s).clock = s.clock ∧ (serveWrite rq s).rp = s.rp ∧
    (serveWrite rq s).px.clearing = s.px.clearing ∧ (serveWrite rq s).fs.state = s.fs.state ∧
    (serveWrite rq s).fs.cursor = s.fs.cursor ∧ (serveWrite rq s).fs.formed = s.fs.formed ∧
    (serveWrite rq s).pt = s.pt ∧ (serveWrite rq s).da.lastAccrual = s.da.lastAccrual ∧
    (serveWrite rq s).sg.exitMark = s.sg.exitMark ∧ (serveWrite rq s).sc.unwindA = s.sc.unwindA ∧
    (serveWrite rq s).sc.unwindB = s.sc.unwindB ∧ (serveWrite rq s).sc.lastStatus = s.sc.lastStatus ∧
    (serveWrite rq s).tc.diameter = s.tc.diameter ∧ (serveWrite rq s).tc.lastStatus = s.tc.lastStatus ∧
    (serveWrite rq s).tc.current = s.tc.current ∧ (serveWrite rq s).tc.closing = s.tc.closing ∧
    (serveWrite rq s).tc.currentPiece = s.tc.currentPiece ∧ (serveWrite rq s).tc.lastOrder = s.tc.lastOrder ∧
    (serveWrite rq s).tc.heldOrder = s.tc.heldOrder ∧ (serveWrite rq s).tc.stateTime = s.tc.stateTime ∧
    (serveWrite rq s).tc.timeoutTaken = s.tc.timeoutTaken ∧ (serveWrite rq s).lc.line = s.lc.line ∧
    (serveWrite rq s).lc.cause = s.lc.cause ∧ (serveWrite rq s).lc.further = s.lc.further ∧
    (serveWrite rq s).lc.clearPending = s.lc.clearPending ∧ (serveWrite rq s).lc.restCount = s.lc.restCount := by
  unfold serveWrite
  try dsimp only
  (repeat' split) <;> simp

/-- What `serveContinue` leaves unchanged. -/
@[simp] theorem serveContinue_frame (rq : Request) (s : State) :
    (serveContinue rq s).pending = s.pending ∧ (serveContinue rq s).clock = s.clock ∧
    (serveContinue rq s).rp = s.rp ∧ (serveContinue rq s).px.clearing = s.px.clearing ∧
    (serveContinue rq s).fs.state = s.fs.state ∧ (serveContinue rq s).fs.cursor = s.fs.cursor ∧
    (serveContinue rq s).fs.formed = s.fs.formed ∧ (serveContinue rq s).pt = s.pt ∧
    (serveContinue rq s).da.lastAccrual = s.da.lastAccrual ∧ (serveContinue rq s).sg.exitMark = s.sg.exitMark ∧
    (serveContinue rq s).sc.unwindA = s.sc.unwindA ∧ (serveContinue rq s).sc.unwindB = s.sc.unwindB ∧
    (serveContinue rq s).sc.lastStatus = s.sc.lastStatus ∧ (serveContinue rq s).tc.diameter = s.tc.diameter ∧
    (serveContinue rq s).tc.lastStatus = s.tc.lastStatus ∧ (serveContinue rq s).tc.current = s.tc.current ∧
    (serveContinue rq s).tc.closing = s.tc.closing ∧ (serveContinue rq s).tc.currentPiece = s.tc.currentPiece ∧
    (serveContinue rq s).tc.lastOrder = s.tc.lastOrder ∧ (serveContinue rq s).tc.heldOrder = s.tc.heldOrder ∧
    (serveContinue rq s).tc.stateTime = s.tc.stateTime ∧
    (serveContinue rq s).tc.timeoutTaken = s.tc.timeoutTaken ∧ (serveContinue rq s).lc.line = s.lc.line ∧
    (serveContinue rq s).lc.cause = s.lc.cause ∧ (serveContinue rq s).lc.further = s.lc.further ∧
    (serveContinue rq s).lc.clearPending = s.lc.clearPending ∧
    (serveContinue rq s).lc.restCount = s.lc.restCount := by
  unfold serveContinue
  try dsimp only
  (repeat' split) <;> simp

/-- What `serveClose` leaves unchanged. -/
@[simp] theorem serveClose_frame (rq : Request) (s : State) :
    (serveClose rq s).pending = s.pending ∧ (serveClose rq s).clock = s.clock ∧ (serveClose rq s).rp = s.rp ∧
    (serveClose rq s).act = s.act ∧ (serveClose rq s).nm = s.nm ∧ (serveClose rq s).px = s.px ∧
    (serveClose rq s).pq = s.pq ∧ (serveClose rq s).fs = s.fs ∧ (serveClose rq s).pt = s.pt ∧
    (serveClose rq s).cl = s.cl ∧ (serveClose rq s).zr = s.zr ∧ (serveClose rq s).da = s.da ∧
    (serveClose rq s).sg = s.sg ∧ (serveClose rq s).sc = s.sc ∧ (serveClose rq s).tc = s.tc ∧
    (serveClose rq s).lc = s.lc := by
  unfold serveClose
  try dsimp only
  (repeat' split) <;> simp

/-- What `expireWrite` leaves unchanged. -/
@[simp] theorem expireWrite_frame (s : State) :
    (expireWrite s).pending = s.pending ∧ (expireWrite s).clock = s.clock ∧ (expireWrite s).rp = s.rp ∧
    (expireWrite s).act = s.act ∧ (expireWrite s).nm = s.nm ∧ (expireWrite s).px = s.px ∧
    (expireWrite s).pq = s.pq ∧ (expireWrite s).fs = s.fs ∧ (expireWrite s).pt = s.pt ∧
    (expireWrite s).cl = s.cl ∧ (expireWrite s).zr = s.zr ∧ (expireWrite s).da = s.da ∧
    (expireWrite s).sg = s.sg ∧ (expireWrite s).sc = s.sc ∧ (expireWrite s).tc = s.tc ∧
    (expireWrite s).lc = s.lc := by
  unfold expireWrite
  try dsimp only
  (repeat' split) <;> simp

/-- What `serveRead` leaves unchanged. -/
@[simp] theorem serveRead_frame (rq : Request) (s : State) :
    (serveRead rq s).pending = s.pending ∧ (serveRead rq s).clock = s.clock ∧ (serveRead rq s).rp = s.rp ∧
    (serveRead rq s).act = s.act ∧ (serveRead rq s).nm = s.nm ∧
    (serveRead rq s).mu.openWrite = s.mu.openWrite ∧ (serveRead rq s).px = s.px ∧ (serveRead rq s).pq = s.pq ∧
    (serveRead rq s).fs = s.fs ∧ (serveRead rq s).pt = s.pt ∧ (serveRead rq s).cl = s.cl ∧
    (serveRead rq s).zr = s.zr ∧ (serveRead rq s).da = s.da ∧ (serveRead rq s).sg = s.sg ∧
    (serveRead rq s).sc = s.sc ∧ (serveRead rq s).tc = s.tc ∧ (serveRead rq s).lc = s.lc := by
  unfold serveRead
  try dsimp only
  (repeat' split) <;> simp

/-- What `serveStatus` leaves unchanged. -/
@[simp] theorem serveStatus_frame (rq : Request) (s : State) :
    (serveStatus rq s).pending = s.pending ∧ (serveStatus rq s).clock = s.clock ∧
    (serveStatus rq s).rp = s.rp ∧ (serveStatus rq s).act = s.act ∧ (serveStatus rq s).nm = s.nm ∧
    (serveStatus rq s).mu.openWrite = s.mu.openWrite ∧ (serveStatus rq s).px = s.px ∧
    (serveStatus rq s).pq = s.pq ∧ (serveStatus rq s).fs = s.fs ∧ (serveStatus rq s).pt = s.pt ∧
    (serveStatus rq s).cl = s.cl ∧ (serveStatus rq s).zr = s.zr ∧ (serveStatus rq s).da = s.da ∧
    (serveStatus rq s).sg = s.sg ∧ (serveStatus rq s).sc = s.sc ∧ (serveStatus rq s).tc = s.tc ∧
    (serveStatus rq s).lc = s.lc := by
  unfold serveStatus
  try dsimp only
  (repeat' split) <;> simp

/-- What `startLine` leaves unchanged. -/
@[simp] theorem startLine_frame (s : State) :
    (startLine s).pending = s.pending ∧ (startLine s).clock = s.clock ∧ (startLine s).rp = s.rp ∧
    (startLine s).nm = s.nm ∧ (startLine s).mu.openWrite = s.mu.openWrite ∧ (startLine s).px.mem = s.px.mem ∧
    (startLine s).px.clearing = s.px.clearing ∧ (startLine s).fs.formed = s.fs.formed ∧
    (startLine s).pt.nextBoundary = s.pt.nextBoundary ∧ (startLine s).da = s.da ∧
    (startLine s).sg.exitMark = s.sg.exitMark ∧ (startLine s).sc.unwindA = s.sc.unwindA ∧
    (startLine s).sc.unwindB = s.sc.unwindB ∧ (startLine s).sc.lastStatus = s.sc.lastStatus ∧
    (startLine s).tc = s.tc ∧ (startLine s).lc.cause = s.lc.cause ∧ (startLine s).lc.further = s.lc.further ∧
    (startLine s).lc.clearPending = s.lc.clearPending ∧ (startLine s).lc.record = s.lc.record ∧
    (startLine s).lc.valid = s.lc.valid := by
  unfold startLine
  try dsimp only
  (repeat' split) <;> simp

/-- What `serveStart` leaves unchanged. -/
@[simp] theorem serveStart_frame (rq : Request) (s : State) :
    (serveStart rq s).pending = s.pending ∧ (serveStart rq s).clock = s.clock ∧ (serveStart rq s).rp = s.rp ∧
    (serveStart rq s).nm = s.nm ∧ (serveStart rq s).mu.openWrite = s.mu.openWrite ∧
    (serveStart rq s).px.mem = s.px.mem ∧ (serveStart rq s).px.clearing = s.px.clearing ∧
    (serveStart rq s).fs.formed = s.fs.formed ∧ (serveStart rq s).pt.nextBoundary = s.pt.nextBoundary ∧
    (serveStart rq s).da = s.da ∧ (serveStart rq s).sg.exitMark = s.sg.exitMark ∧
    (serveStart rq s).sc.unwindA = s.sc.unwindA ∧ (serveStart rq s).sc.unwindB = s.sc.unwindB ∧
    (serveStart rq s).sc.lastStatus = s.sc.lastStatus ∧ (serveStart rq s).tc = s.tc ∧
    (serveStart rq s).lc.cause = s.lc.cause ∧ (serveStart rq s).lc.further = s.lc.further ∧
    (serveStart rq s).lc.clearPending = s.lc.clearPending ∧ (serveStart rq s).lc.record = s.lc.record ∧
    (serveStart rq s).lc.valid = s.lc.valid := by
  unfold serveStart
  try dsimp only
  (repeat' split) <;> simp

/-- What `serveStop` leaves unchanged. -/
@[simp] theorem serveStop_frame (rq : Request) (s : State) :
    (serveStop rq s).pending = s.pending ∧ (serveStop rq s).clock = s.clock ∧ (serveStop rq s).rp = s.rp ∧
    (serveStop rq s).nm = s.nm ∧ (serveStop rq s).mu.openWrite = s.mu.openWrite ∧
    (serveStop rq s).px.mem = s.px.mem ∧ (serveStop rq s).px.clearing = s.px.clearing ∧
    (serveStop rq s).fs.cursor = s.fs.cursor ∧ (serveStop rq s).fs.formed = s.fs.formed ∧
    (serveStop rq s).pt.nextBoundary = s.pt.nextBoundary ∧ (serveStop rq s).da = s.da ∧
    (serveStop rq s).sg.exitMark = s.sg.exitMark ∧ (serveStop rq s).sc.unwindA = s.sc.unwindA ∧
    (serveStop rq s).sc.unwindB = s.sc.unwindB ∧ (serveStop rq s).sc.lastStatus = s.sc.lastStatus ∧
    (serveStop rq s).tc = s.tc ∧ (serveStop rq s).lc.cause = s.lc.cause ∧
    (serveStop rq s).lc.further = s.lc.further ∧ (serveStop rq s).lc.clearPending = s.lc.clearPending ∧
    (serveStop rq s).lc.record = s.lc.record ∧ (serveStop rq s).lc.valid = s.lc.valid := by
  unfold serveStop
  try dsimp only
  (repeat' split) <;> simp

/-- What `serveRestart` leaves unchanged. -/
@[simp] theorem serveRestart_frame (rq : Request) (s : State) :
    (serveRestart rq s).pending = s.pending ∧ (serveRestart rq s).clock = s.clock ∧
    (serveRestart rq s).rp = s.rp ∧ (serveRestart rq s).nm = s.nm ∧
    (serveRestart rq s).mu.openWrite = s.mu.openWrite ∧ (serveRestart rq s).px.mem = s.px.mem ∧
    (serveRestart rq s).px.clearing = s.px.clearing ∧ (serveRestart rq s).pt.nextBoundary = s.pt.nextBoundary ∧
    (serveRestart rq s).da = s.da ∧ (serveRestart rq s).sg.exitMark = s.sg.exitMark ∧
    (serveRestart rq s).sc.unwindA = s.sc.unwindA ∧ (serveRestart rq s).sc.unwindB = s.sc.unwindB ∧
    (serveRestart rq s).sc.lastStatus = s.sc.lastStatus ∧ (serveRestart rq s).tc = s.tc ∧
    (serveRestart rq s).lc.cause = s.lc.cause ∧ (serveRestart rq s).lc.further = s.lc.further ∧
    (serveRestart rq s).lc.clearPending = s.lc.clearPending ∧ (serveRestart rq s).lc.record = s.lc.record ∧
    (serveRestart rq s).lc.valid = s.lc.valid := by
  unfold serveRestart
  try dsimp only
  (repeat' split) <;> simp

/-- What `serveRelease` leaves unchanged. -/
@[simp] theorem serveRelease_frame (rq : Request) (s : State) :
    (serveRelease rq s).pending = s.pending ∧ (serveRelease rq s).clock = s.clock ∧
    (serveRelease rq s).rp = s.rp ∧ (serveRelease rq s).nm = s.nm ∧
    (serveRelease rq s).mu.openWrite = s.mu.openWrite ∧ (serveRelease rq s).px.mem = s.px.mem ∧
    (serveRelease rq s).px.clearing = s.px.clearing ∧ (serveRelease rq s).fs.formed = s.fs.formed ∧
    (serveRelease rq s).pt.nextBoundary = s.pt.nextBoundary ∧ (serveRelease rq s).da = s.da ∧
    (serveRelease rq s).sg.exitMark = s.sg.exitMark ∧ (serveRelease rq s).sc.unwindA = s.sc.unwindA ∧
    (serveRelease rq s).sc.unwindB = s.sc.unwindB ∧ (serveRelease rq s).sc.lastStatus = s.sc.lastStatus ∧
    (serveRelease rq s).tc = s.tc ∧ (serveRelease rq s).lc.cause = s.lc.cause ∧
    (serveRelease rq s).lc.further = s.lc.further ∧ (serveRelease rq s).lc.clearPending = s.lc.clearPending ∧
    (serveRelease rq s).lc.record = s.lc.record ∧ (serveRelease rq s).lc.valid = s.lc.valid := by
  unfold serveRelease
  try dsimp only
  (repeat' split) <;> simp

/-- What `answerAdmission` leaves unchanged. -/
@[simp] theorem answerAdmission_frame (rq : Request) (s : State) (a : Admission) :
    (answerAdmission rq s a).pending = s.pending ∧ (answerAdmission rq s a).clock = s.clock ∧
    (answerAdmission rq s a).rp = s.rp ∧ (answerAdmission rq s a).act = s.act ∧
    (answerAdmission rq s a).nm = s.nm ∧ (answerAdmission rq s a).mu.openWrite = s.mu.openWrite ∧
    (answerAdmission rq s a).px = s.px ∧ (answerAdmission rq s a).pq = s.pq ∧
    (answerAdmission rq s a).fs = s.fs ∧ (answerAdmission rq s a).pt = s.pt ∧
    (answerAdmission rq s a).cl = s.cl ∧ (answerAdmission rq s a).zr = s.zr ∧
    (answerAdmission rq s a).da = s.da ∧ (answerAdmission rq s a).sg = s.sg ∧
    (answerAdmission rq s a).sc = s.sc ∧ (answerAdmission rq s a).tc = s.tc ∧ (answerAdmission rq s a).lc = s.lc := by
  unfold answerAdmission
  split <;> simp

/-- What `serveAdmit` leaves unchanged. -/
@[simp] theorem serveAdmit_frame (rq : Request) (s : State) :
    (serveAdmit rq s).pending = s.pending ∧ (serveAdmit rq s).clock = s.clock ∧ (serveAdmit rq s).rp = s.rp ∧
    (serveAdmit rq s).nm = s.nm ∧ (serveAdmit rq s).mu.openWrite = s.mu.openWrite ∧
    (serveAdmit rq s).px.mem = s.px.mem ∧ (serveAdmit rq s).px.clearing = s.px.clearing ∧
    (serveAdmit rq s).fs.state = s.fs.state ∧ (serveAdmit rq s).fs.cursor = s.fs.cursor ∧
    (serveAdmit rq s).fs.formed = s.fs.formed ∧ (serveAdmit rq s).pt = s.pt ∧ (serveAdmit rq s).zr = s.zr ∧
    (serveAdmit rq s).da = s.da ∧ (serveAdmit rq s).sg.exitMark = s.sg.exitMark ∧
    (serveAdmit rq s).sc.unwindA = s.sc.unwindA ∧ (serveAdmit rq s).sc.unwindB = s.sc.unwindB ∧
    (serveAdmit rq s).sc.lastStatus = s.sc.lastStatus ∧ (serveAdmit rq s).tc = s.tc ∧
    (serveAdmit rq s).lc = s.lc := by
  unfold serveAdmit
  try dsimp only
  (repeat' split) <;> simp

/-- What `enlistSlot` leaves unchanged. -/
@[simp] theorem enlistSlot_frame (slot : Fin 8) (s : State) :
    (enlistSlot slot s).pending = s.pending ∧ (enlistSlot slot s).clock = s.clock ∧
    (enlistSlot slot s).rp = s.rp ∧ (enlistSlot slot s).nm = s.nm ∧
    (enlistSlot slot s).mu.openWrite = s.mu.openWrite ∧ (enlistSlot slot s).px.mem = s.px.mem ∧
    (enlistSlot slot s).px.clearing = s.px.clearing ∧ (enlistSlot slot s).fs.state = s.fs.state ∧
    (enlistSlot slot s).fs.cursor = s.fs.cursor ∧ (enlistSlot slot s).fs.formed = s.fs.formed ∧
    (enlistSlot slot s).pt = s.pt ∧ (enlistSlot slot s).zr = s.zr ∧ (enlistSlot slot s).da = s.da ∧
    (enlistSlot slot s).sg.exitMark = s.sg.exitMark ∧ (enlistSlot slot s).sc.unwindA = s.sc.unwindA ∧
    (enlistSlot slot s).sc.unwindB = s.sc.unwindB ∧ (enlistSlot slot s).sc.lastStatus = s.sc.lastStatus ∧
    (enlistSlot slot s).tc = s.tc ∧ (enlistSlot slot s).lc = s.lc := by
  unfold enlistSlot
  try dsimp only
  (repeat' split) <;> simp

/-- What `serveEnlist` leaves unchanged. -/
@[simp] theorem serveEnlist_frame (rq : Request) (s : State) :
    (serveEnlist rq s).pending = s.pending ∧ (serveEnlist rq s).clock = s.clock ∧
    (serveEnlist rq s).rp = s.rp ∧ (serveEnlist rq s).nm = s.nm ∧
    (serveEnlist rq s).mu.openWrite = s.mu.openWrite ∧ (serveEnlist rq s).px.mem = s.px.mem ∧
    (serveEnlist rq s).px.clearing = s.px.clearing ∧ (serveEnlist rq s).fs.state = s.fs.state ∧
    (serveEnlist rq s).fs.cursor = s.fs.cursor ∧ (serveEnlist rq s).fs.formed = s.fs.formed ∧
    (serveEnlist rq s).pt = s.pt ∧ (serveEnlist rq s).zr = s.zr ∧ (serveEnlist rq s).da = s.da ∧
    (serveEnlist rq s).sg.exitMark = s.sg.exitMark ∧ (serveEnlist rq s).sc.unwindA = s.sc.unwindA ∧
    (serveEnlist rq s).sc.unwindB = s.sc.unwindB ∧ (serveEnlist rq s).sc.lastStatus = s.sc.lastStatus ∧
    (serveEnlist rq s).tc = s.tc ∧ (serveEnlist rq s).lc = s.lc := by
  unfold serveEnlist
  try dsimp only
  (repeat' split) <;> simp

/-- What `withdrawSlot` leaves unchanged. -/
@[simp] theorem withdrawSlot_frame (slot : Fin 8) (s : State) :
    (withdrawSlot slot s).pending = s.pending ∧ (withdrawSlot slot s).clock = s.clock ∧
    (withdrawSlot slot s).rp = s.rp ∧ (withdrawSlot slot s).nm = s.nm ∧
    (withdrawSlot slot s).mu.openWrite = s.mu.openWrite ∧ (withdrawSlot slot s).px.mem = s.px.mem ∧
    (withdrawSlot slot s).px.clearing = s.px.clearing ∧ (withdrawSlot slot s).fs.state = s.fs.state ∧
    (withdrawSlot slot s).fs.cursor = s.fs.cursor ∧ (withdrawSlot slot s).fs.formed = s.fs.formed ∧
    (withdrawSlot slot s).pt = s.pt ∧ (withdrawSlot slot s).zr = s.zr ∧ (withdrawSlot slot s).da = s.da ∧
    (withdrawSlot slot s).sg.exitMark = s.sg.exitMark ∧ (withdrawSlot slot s).sc.unwindA = s.sc.unwindA ∧
    (withdrawSlot slot s).sc.unwindB = s.sc.unwindB ∧ (withdrawSlot slot s).sc.lastStatus = s.sc.lastStatus ∧
    (withdrawSlot slot s).tc = s.tc ∧ (withdrawSlot slot s).lc = s.lc := by
  unfold withdrawSlot
  try dsimp only
  (repeat' split) <;> simp

/-- What `serveWithdraw` leaves unchanged. -/
@[simp] theorem serveWithdraw_frame (rq : Request) (s : State) :
    (serveWithdraw rq s).pending = s.pending ∧ (serveWithdraw rq s).clock = s.clock ∧
    (serveWithdraw rq s).rp = s.rp ∧ (serveWithdraw rq s).nm = s.nm ∧
    (serveWithdraw rq s).mu.openWrite = s.mu.openWrite ∧ (serveWithdraw rq s).px.mem = s.px.mem ∧
    (serveWithdraw rq s).px.clearing = s.px.clearing ∧ (serveWithdraw rq s).fs.state = s.fs.state ∧
    (serveWithdraw rq s).fs.cursor = s.fs.cursor ∧ (serveWithdraw rq s).fs.formed = s.fs.formed ∧
    (serveWithdraw rq s).pt = s.pt ∧ (serveWithdraw rq s).zr = s.zr ∧ (serveWithdraw rq s).da = s.da ∧
    (serveWithdraw rq s).sg.exitMark = s.sg.exitMark ∧ (serveWithdraw rq s).sc.unwindA = s.sc.unwindA ∧
    (serveWithdraw rq s).sc.unwindB = s.sc.unwindB ∧ (serveWithdraw rq s).sc.lastStatus = s.sc.lastStatus ∧
    (serveWithdraw rq s).tc = s.tc ∧ (serveWithdraw rq s).lc = s.lc := by
  unfold serveWithdraw
  try dsimp only
  (repeat' split) <;> simp

/-- What `releaseSlot` leaves unchanged. -/
@[simp] theorem releaseSlot_frame (slot : Fin 8) (s : State) :
    (releaseSlot slot s).pending = s.pending ∧ (releaseSlot slot s).clock = s.clock ∧
    (releaseSlot slot s).rp = s.rp ∧ (releaseSlot slot s).nm = s.nm ∧
    (releaseSlot slot s).mu.openWrite = s.mu.openWrite ∧ (releaseSlot slot s).px.mem = s.px.mem ∧
    (releaseSlot slot s).px.clearing = s.px.clearing ∧ (releaseSlot slot s).fs.state = s.fs.state ∧
    (releaseSlot slot s).fs.cursor = s.fs.cursor ∧ (releaseSlot slot s).fs.formed = s.fs.formed ∧
    (releaseSlot slot s).pt = s.pt ∧ (releaseSlot slot s).zr = s.zr ∧ (releaseSlot slot s).da = s.da ∧
    (releaseSlot slot s).sg.exitMark = s.sg.exitMark ∧ (releaseSlot slot s).sc.unwindA = s.sc.unwindA ∧
    (releaseSlot slot s).sc.unwindB = s.sc.unwindB ∧ (releaseSlot slot s).sc.lastStatus = s.sc.lastStatus ∧
    (releaseSlot slot s).tc = s.tc ∧ (releaseSlot slot s).lc = s.lc := by
  unfold releaseSlot
  try dsimp only
  (repeat' split) <;> simp

/-- What `serveClearSlot` leaves unchanged. -/
@[simp] theorem serveClearSlot_frame (rq : Request) (s : State) :
    (serveClearSlot rq s).pending = s.pending ∧ (serveClearSlot rq s).clock = s.clock ∧
    (serveClearSlot rq s).rp = s.rp ∧ (serveClearSlot rq s).nm = s.nm ∧
    (serveClearSlot rq s).mu.openWrite = s.mu.openWrite ∧ (serveClearSlot rq s).px.mem = s.px.mem ∧
    (serveClearSlot rq s).px.clearing = s.px.clearing ∧ (serveClearSlot rq s).fs.state = s.fs.state ∧
    (serveClearSlot rq s).fs.cursor = s.fs.cursor ∧ (serveClearSlot rq s).fs.formed = s.fs.formed ∧
    (serveClearSlot rq s).pt = s.pt ∧ (serveClearSlot rq s).zr = s.zr ∧ (serveClearSlot rq s).da = s.da ∧
    (serveClearSlot rq s).sg.exitMark = s.sg.exitMark ∧ (serveClearSlot rq s).sc.unwindA = s.sc.unwindA ∧
    (serveClearSlot rq s).sc.unwindB = s.sc.unwindB ∧ (serveClearSlot rq s).sc.lastStatus = s.sc.lastStatus ∧
    (serveClearSlot rq s).tc = s.tc ∧ (serveClearSlot rq s).lc = s.lc := by
  unfold serveClearSlot
  try dsimp only
  (repeat' split) <;> simp

/-- What `clearFault` leaves unchanged. -/
@[simp] theorem clearFault_frame (s : State) :
    (clearFault s).pending = s.pending ∧ (clearFault s).clock = s.clock ∧ (clearFault s).rp = s.rp ∧
    (clearFault s).nm = s.nm ∧ (clearFault s).mu.openWrite = s.mu.openWrite ∧
    (clearFault s).px.mem = s.px.mem ∧ (clearFault s).px.clearing = s.px.clearing ∧
    (clearFault s).fs.cursor = s.fs.cursor ∧ (clearFault s).fs.formed = s.fs.formed ∧
    (clearFault s).pt.nextBoundary = s.pt.nextBoundary ∧ (clearFault s).da = s.da ∧
    (clearFault s).sg.exitMark = s.sg.exitMark ∧ (clearFault s).sc.unwindA = s.sc.unwindA ∧
    (clearFault s).sc.unwindB = s.sc.unwindB ∧ (clearFault s).sc.lastStatus = s.sc.lastStatus ∧
    (clearFault s).tc = s.tc ∧ (clearFault s).lc.restCount = s.lc.restCount ∧
    (clearFault s).lc.record = s.lc.record ∧ (clearFault s).lc.valid = s.lc.valid := by
  unfold clearFault
  try dsimp only
  (repeat' split) <;> simp

/-- What `serveClearLine` leaves unchanged. -/
@[simp] theorem serveClearLine_frame (rq : Request) (s : State) :
    (serveClearLine rq s).pending = s.pending ∧ (serveClearLine rq s).clock = s.clock ∧
    (serveClearLine rq s).rp = s.rp ∧ (serveClearLine rq s).nm = s.nm ∧
    (serveClearLine rq s).mu.openWrite = s.mu.openWrite ∧ (serveClearLine rq s).px.mem = s.px.mem ∧
    (serveClearLine rq s).px.clearing = s.px.clearing ∧ (serveClearLine rq s).fs.cursor = s.fs.cursor ∧
    (serveClearLine rq s).fs.formed = s.fs.formed ∧ (serveClearLine rq s).pt.nextBoundary = s.pt.nextBoundary ∧
    (serveClearLine rq s).da = s.da ∧ (serveClearLine rq s).sg.exitMark = s.sg.exitMark ∧
    (serveClearLine rq s).sc.unwindA = s.sc.unwindA ∧ (serveClearLine rq s).sc.unwindB = s.sc.unwindB ∧
    (serveClearLine rq s).sc.lastStatus = s.sc.lastStatus ∧ (serveClearLine rq s).tc = s.tc ∧
    (serveClearLine rq s).lc.restCount = s.lc.restCount ∧ (serveClearLine rq s).lc.record = s.lc.record ∧
    (serveClearLine rq s).lc.valid = s.lc.valid := by
  unfold serveClearLine
  try dsimp only
  (repeat' split) <;> simp

/-- What `serveClear` leaves unchanged. -/
@[simp] theorem serveClear_frame (rq : Request) (s : State) :
    (serveClear rq s).pending = s.pending ∧ (serveClear rq s).clock = s.clock ∧ (serveClear rq s).rp = s.rp ∧
    (serveClear rq s).nm = s.nm ∧ (serveClear rq s).mu.openWrite = s.mu.openWrite ∧
    (serveClear rq s).px.mem = s.px.mem ∧ (serveClear rq s).px.clearing = s.px.clearing ∧
    (serveClear rq s).fs.cursor = s.fs.cursor ∧ (serveClear rq s).fs.formed = s.fs.formed ∧
    (serveClear rq s).pt.nextBoundary = s.pt.nextBoundary ∧ (serveClear rq s).da = s.da ∧
    (serveClear rq s).sg.exitMark = s.sg.exitMark ∧ (serveClear rq s).sc.unwindA = s.sc.unwindA ∧
    (serveClear rq s).sc.unwindB = s.sc.unwindB ∧ (serveClear rq s).sc.lastStatus = s.sc.lastStatus ∧
    (serveClear rq s).tc = s.tc ∧ (serveClear rq s).lc.restCount = s.lc.restCount ∧
    (serveClear rq s).lc.record = s.lc.record ∧ (serveClear rq s).lc.valid = s.lc.valid := by
  unfold serveClear
  try dsimp only
  (repeat' split) <;> simp

/-- What `serveStandby` leaves unchanged. -/
@[simp] theorem serveStandby_frame (rq : Request) (s : State) :
    (serveStandby rq s).pending = s.pending ∧ (serveStandby rq s).clock = s.clock ∧
    (serveStandby rq s).rp = s.rp ∧ (serveStandby rq s).nm = s.nm ∧
    (serveStandby rq s).mu.openWrite = s.mu.openWrite ∧ (serveStandby rq s).px = s.px ∧
    (serveStandby rq s).pq = s.pq ∧ (serveStandby rq s).fs = s.fs ∧ (serveStandby rq s).pt = s.pt ∧
    (serveStandby rq s).cl = s.cl ∧ (serveStandby rq s).da = s.da ∧ (serveStandby rq s).sg = s.sg ∧
    (serveStandby rq s).sc = s.sc ∧ (serveStandby rq s).tc = s.tc ∧ (serveStandby rq s).lc = s.lc := by
  unfold serveStandby
  try dsimp only
  (repeat' split) <;> simp

/-- What `serveWake` leaves unchanged. -/
@[simp] theorem serveWake_frame (rq : Request) (s : State) :
    (serveWake rq s).pending = s.pending ∧ (serveWake rq s).clock = s.clock ∧ (serveWake rq s).rp = s.rp ∧
    (serveWake rq s).nm = s.nm ∧ (serveWake rq s).mu.openWrite = s.mu.openWrite ∧ (serveWake rq s).px = s.px ∧
    (serveWake rq s).pq = s.pq ∧ (serveWake rq s).fs = s.fs ∧ (serveWake rq s).pt = s.pt ∧
    (serveWake rq s).cl = s.cl ∧ (serveWake rq s).da = s.da ∧ (serveWake rq s).sg = s.sg ∧
    (serveWake rq s).sc = s.sc ∧ (serveWake rq s).tc = s.tc ∧ (serveWake rq s).lc = s.lc := by
  unfold serveWake
  try dsimp only
  (repeat' split) <;> simp

/-- What `answerPurge` leaves unchanged. -/
@[simp] theorem answerPurge_frame (rq : Request) (slot : Option (Fin 8)) (s : State) :
    (answerPurge rq slot s).pending = s.pending ∧ (answerPurge rq slot s).clock = s.clock ∧
    (answerPurge rq slot s).rp = s.rp ∧ (answerPurge rq slot s).act = s.act ∧
    (answerPurge rq slot s).nm = s.nm ∧ (answerPurge rq slot s).mu.openWrite = s.mu.openWrite ∧
    (answerPurge rq slot s).px.mem = s.px.mem ∧ (answerPurge rq slot s).px.clearing = s.px.clearing ∧
    (answerPurge rq slot s).px.pointer = s.px.pointer ∧ (answerPurge rq slot s).pq = s.pq ∧
    (answerPurge rq slot s).fs = s.fs ∧ (answerPurge rq slot s).pt = s.pt ∧ (answerPurge rq slot s).cl = s.cl ∧
    (answerPurge rq slot s).zr = s.zr ∧ (answerPurge rq slot s).da = s.da ∧ (answerPurge rq slot s).sg = s.sg ∧
    (answerPurge rq slot s).sc = s.sc ∧ (answerPurge rq slot s).tc = s.tc ∧ (answerPurge rq slot s).lc = s.lc := by
  simp [answerPurge, purgeLookaside]

/-- What `servePurge` leaves unchanged. -/
@[simp] theorem servePurge_frame (rq : Request) (s : State) :
    (servePurge rq s).pending = s.pending ∧ (servePurge rq s).clock = s.clock ∧ (servePurge rq s).rp = s.rp ∧
    (servePurge rq s).act = s.act ∧ (servePurge rq s).nm = s.nm ∧
    (servePurge rq s).mu.openWrite = s.mu.openWrite ∧ (servePurge rq s).px.mem = s.px.mem ∧
    (servePurge rq s).px.clearing = s.px.clearing ∧ (servePurge rq s).px.pointer = s.px.pointer ∧
    (servePurge rq s).pq = s.pq ∧ (servePurge rq s).fs = s.fs ∧ (servePurge rq s).pt = s.pt ∧
    (servePurge rq s).cl = s.cl ∧ (servePurge rq s).zr = s.zr ∧ (servePurge rq s).da = s.da ∧
    (servePurge rq s).sg = s.sg ∧ (servePurge rq s).sc = s.sc ∧ (servePurge rq s).tc = s.tc ∧
    (servePurge rq s).lc = s.lc := by
  unfold servePurge
  try dsimp only
  (repeat' split) <;> simp

/-- What `storeSetpoint` leaves unchanged. -/
@[simp] theorem storeSetpoint_frame (v : Nat) (s : State) :
    (storeSetpoint v s).pending = s.pending ∧ (storeSetpoint v s).clock = s.clock ∧
    (storeSetpoint v s).rp = s.rp ∧ (storeSetpoint v s).nm = s.nm ∧
    (storeSetpoint v s).mu.openWrite = s.mu.openWrite ∧ (storeSetpoint v s).px = s.px ∧
    (storeSetpoint v s).pq = s.pq ∧ (storeSetpoint v s).fs.state = s.fs.state ∧
    (storeSetpoint v s).fs.cursor = s.fs.cursor ∧ (storeSetpoint v s).fs.formed = s.fs.formed ∧
    (storeSetpoint v s).pt = s.pt ∧ (storeSetpoint v s).cl = s.cl ∧ (storeSetpoint v s).zr = s.zr ∧
    (storeSetpoint v s).da = s.da ∧ (storeSetpoint v s).sg.exitMark = s.sg.exitMark ∧
    (storeSetpoint v s).sc = s.sc ∧ (storeSetpoint v s).tc = s.tc ∧ (storeSetpoint v s).lc.line = s.lc.line ∧
    (storeSetpoint v s).lc.cause = s.lc.cause ∧ (storeSetpoint v s).lc.further = s.lc.further ∧
    (storeSetpoint v s).lc.clearPending = s.lc.clearPending ∧
    (storeSetpoint v s).lc.restCount = s.lc.restCount ∧ (storeSetpoint v s).lc.valid = s.lc.valid := by
  unfold storeSetpoint
  try dsimp only
  (repeat' split) <;> simp

/-- What `serveSpeed` leaves unchanged. -/
@[simp] theorem serveSpeed_frame (rq : Request) (s : State) :
    (serveSpeed rq s).pending = s.pending ∧ (serveSpeed rq s).clock = s.clock ∧ (serveSpeed rq s).rp = s.rp ∧
    (serveSpeed rq s).nm = s.nm ∧ (serveSpeed rq s).mu.openWrite = s.mu.openWrite ∧
    (serveSpeed rq s).px = s.px ∧ (serveSpeed rq s).pq = s.pq ∧ (serveSpeed rq s).fs.state = s.fs.state ∧
    (serveSpeed rq s).fs.cursor = s.fs.cursor ∧ (serveSpeed rq s).fs.formed = s.fs.formed ∧
    (serveSpeed rq s).pt = s.pt ∧ (serveSpeed rq s).cl = s.cl ∧ (serveSpeed rq s).zr = s.zr ∧
    (serveSpeed rq s).da = s.da ∧ (serveSpeed rq s).sg.exitMark = s.sg.exitMark ∧ (serveSpeed rq s).sc = s.sc ∧
    (serveSpeed rq s).tc = s.tc ∧ (serveSpeed rq s).lc.line = s.lc.line ∧
    (serveSpeed rq s).lc.cause = s.lc.cause ∧ (serveSpeed rq s).lc.further = s.lc.further ∧
    (serveSpeed rq s).lc.clearPending = s.lc.clearPending ∧ (serveSpeed rq s).lc.restCount = s.lc.restCount ∧
    (serveSpeed rq s).lc.valid = s.lc.valid := by
  unfold serveSpeed
  try dsimp only
  (repeat' split) <;> simp

/-- What `serveAcknowledge` leaves unchanged. -/
@[simp] theorem serveAcknowledge_frame (rq : Request) (s : State) :
    (serveAcknowledge rq s).pending = s.pending ∧ (serveAcknowledge rq s).clock = s.clock ∧
    (serveAcknowledge rq s).rp = s.rp ∧ (serveAcknowledge rq s).act = s.act ∧
    (serveAcknowledge rq s).nm = s.nm ∧ (serveAcknowledge rq s).mu.openWrite = s.mu.openWrite ∧
    (serveAcknowledge rq s).px = s.px ∧ (serveAcknowledge rq s).pq = s.pq ∧ (serveAcknowledge rq s).fs = s.fs ∧
    (serveAcknowledge rq s).pt = s.pt ∧ (serveAcknowledge rq s).cl = s.cl ∧ (serveAcknowledge rq s).zr = s.zr ∧
    (serveAcknowledge rq s).da = s.da ∧ (serveAcknowledge rq s).sg = s.sg ∧ (serveAcknowledge rq s).sc = s.sc ∧
    (serveAcknowledge rq s).tc = s.tc ∧ (serveAcknowledge rq s).lc = s.lc := by
  unfold serveAcknowledge
  try dsimp only
  (repeat' split) <;> simp

/-- What `resetBlocks` leaves unchanged. -/
@[simp] theorem resetBlocks_frame (s : State) :
    (resetBlocks s).pending = s.pending ∧ (resetBlocks s).clock = s.clock ∧ (resetBlocks s).rp = s.rp ∧
    (resetBlocks s).act.next = s.act.next ∧ (resetBlocks s).report = s.report ∧ (resetBlocks s).nm = s.nm ∧
    (resetBlocks s).mu = s.mu ∧ (resetBlocks s).px.mem = s.px.mem ∧
    (resetBlocks s).px.clearing = s.px.clearing ∧ (resetBlocks s).pq.nextId = s.pq.nextId ∧
    (resetBlocks s).fs.formed = s.fs.formed ∧ (resetBlocks s).pt = s.pt ∧ (resetBlocks s).zr = s.zr ∧
    (resetBlocks s).da = s.da ∧ (resetBlocks s).sg.vHeat = s.sg.vHeat ∧ (resetBlocks s).sg.vInf = s.sg.vInf ∧
    (resetBlocks s).sg.requirement = s.sg.requirement ∧ (resetBlocks s).sc.unwindA = s.sc.unwindA ∧
    (resetBlocks s).sc.unwindB = s.sc.unwindB ∧ (resetBlocks s).sc.lastStatus = s.sc.lastStatus ∧
    (resetBlocks s).tc.diameter = s.tc.diameter ∧ (resetBlocks s).tc.lastStatus = s.tc.lastStatus ∧
    (resetBlocks s).lc = s.lc := by
  simp [resetBlocks, abandonActs, resetLookaside, resetQueue, resetFold, resetGovernor, resetSplice, resetTakeUp]

/-- What `resetLine` leaves unchanged. -/
@[simp] theorem resetLine_frame (s : State) :
    (resetLine s).pending = s.pending ∧ (resetLine s).clock = s.clock ∧ (resetLine s).rp = s.rp ∧
    (resetLine s).nm = s.nm ∧ (resetLine s).mu.openWrite = s.mu.openWrite ∧ (resetLine s).px = s.px ∧
    (resetLine s).pq = s.pq ∧ (resetLine s).fs.state = s.fs.state ∧ (resetLine s).fs.cursor = s.fs.cursor ∧
    (resetLine s).fs.formed = s.fs.formed ∧ (resetLine s).pt = s.pt ∧ (resetLine s).cl = s.cl ∧
    (resetLine s).zr = s.zr ∧ (resetLine s).da = s.da ∧ (resetLine s).sg.exitMark = s.sg.exitMark ∧
    (resetLine s).sc = s.sc ∧ (resetLine s).tc = s.tc ∧ (resetLine s).lc.cause = s.lc.cause ∧
    (resetLine s).lc.further = s.lc.further ∧ (resetLine s).lc.clearPending = s.lc.clearPending ∧
    (resetLine s).lc.record = s.lc.record ∧ (resetLine s).lc.valid = s.lc.valid := by
  unfold resetLine
  try dsimp only
  (repeat' split) <;> simp

/-- What `closeForReset` leaves unchanged. -/
@[simp] theorem closeForReset_frame (s : State) :
    (closeForReset s).pending = s.pending ∧ (closeForReset s).clock = s.clock ∧ (closeForReset s).rp = s.rp ∧
    (closeForReset s).act = s.act ∧ (closeForReset s).nm = s.nm ∧ (closeForReset s).px = s.px ∧
    (closeForReset s).pq = s.pq ∧ (closeForReset s).fs = s.fs ∧ (closeForReset s).pt = s.pt ∧
    (closeForReset s).cl = s.cl ∧ (closeForReset s).zr = s.zr ∧ (closeForReset s).da = s.da ∧
    (closeForReset s).sg = s.sg ∧ (closeForReset s).sc = s.sc ∧ (closeForReset s).tc = s.tc ∧
    (closeForReset s).lc = s.lc := by
  unfold closeForReset
  try dsimp only
  (repeat' split) <;> simp

/-- What `serveLineReset` leaves unchanged. -/
@[simp] theorem serveLineReset_frame (rq : Request) (s : State) :
    (serveLineReset rq s).pending = s.pending ∧ (serveLineReset rq s).clock = s.clock ∧
    (serveLineReset rq s).rp = s.rp ∧ (serveLineReset rq s).nm = s.nm ∧
    (serveLineReset rq s).px.mem = s.px.mem ∧ (serveLineReset rq s).px.clearing = s.px.clearing ∧
    (serveLineReset rq s).pq.nextId = s.pq.nextId ∧ (serveLineReset rq s).fs.formed = s.fs.formed ∧
    (serveLineReset rq s).pt = s.pt ∧ (serveLineReset rq s).zr = s.zr ∧ (serveLineReset rq s).da = s.da ∧
    (serveLineReset rq s).sc.unwindA = s.sc.unwindA ∧ (serveLineReset rq s).sc.unwindB = s.sc.unwindB ∧
    (serveLineReset rq s).sc.lastStatus = s.sc.lastStatus ∧ (serveLineReset rq s).tc.diameter = s.tc.diameter ∧
    (serveLineReset rq s).tc.lastStatus = s.tc.lastStatus ∧ (serveLineReset rq s).lc.cause = s.lc.cause ∧
    (serveLineReset rq s).lc.further = s.lc.further ∧
    (serveLineReset rq s).lc.clearPending = s.lc.clearPending ∧ (serveLineReset rq s).lc.record = s.lc.record ∧
    (serveLineReset rq s).lc.valid = s.lc.valid := by
  unfold serveLineReset
  try dsimp only
  (repeat' split) <;> simp

/-- What `answerClose` leaves unchanged. -/
@[simp] theorem answerClose_frame (rq : Request) (s : State) :
    (answerClose rq s).pending = s.pending ∧ (answerClose rq s).clock = s.clock ∧
    (answerClose rq s).rp = s.rp ∧ (answerClose rq s).act = s.act ∧ (answerClose rq s).nm = s.nm ∧
    (answerClose rq s).px = s.px ∧ (answerClose rq s).pq = s.pq ∧ (answerClose rq s).fs = s.fs ∧
    (answerClose rq s).pt = s.pt ∧ (answerClose rq s).cl = s.cl ∧ (answerClose rq s).zr = s.zr ∧
    (answerClose rq s).da = s.da ∧ (answerClose rq s).sg = s.sg ∧ (answerClose rq s).sc = s.sc ∧
    (answerClose rq s).tc = s.tc ∧ (answerClose rq s).lc = s.lc := by
  unfold answerClose
  try dsimp only
  (repeat' split) <;> simp

/-- What `answerUnknown` leaves unchanged. -/
@[simp] theorem answerUnknown_frame (code : Byte) (rq : Request) (s : State) :
    (answerUnknown code rq s).pending = s.pending ∧ (answerUnknown code rq s).clock = s.clock ∧
    (answerUnknown code rq s).rp = s.rp ∧ (answerUnknown code rq s).act = s.act ∧
    (answerUnknown code rq s).nm = s.nm ∧ (answerUnknown code rq s).px = s.px ∧
    (answerUnknown code rq s).pq = s.pq ∧ (answerUnknown code rq s).fs = s.fs ∧
    (answerUnknown code rq s).pt = s.pt ∧ (answerUnknown code rq s).cl = s.cl ∧
    (answerUnknown code rq s).zr = s.zr ∧ (answerUnknown code rq s).da = s.da ∧
    (answerUnknown code rq s).sg = s.sg ∧ (answerUnknown code rq s).sc = s.sc ∧
    (answerUnknown code rq s).tc = s.tc ∧ (answerUnknown code rq s).lc = s.lc := by
  unfold answerUnknown
  try dsimp only
  (repeat' split) <;> simp

/-- What `takeRequest` leaves unchanged. -/
@[simp] theorem takeRequest_frame (code : Byte) (rq : Request) (s : State) :
    (takeRequest code rq s).pending = s.pending ∧ (takeRequest code rq s).clock = s.clock ∧
    (takeRequest code rq s).rp = s.rp ∧ (takeRequest code rq s).px.clearing = s.px.clearing ∧
    (takeRequest code rq s).pt.nextBoundary = s.pt.nextBoundary ∧
    (takeRequest code rq s).da.lastAccrual = s.da.lastAccrual ∧
    (takeRequest code rq s).sc.unwindA = s.sc.unwindA ∧ (takeRequest code rq s).sc.unwindB = s.sc.unwindB ∧
    (takeRequest code rq s).sc.lastStatus = s.sc.lastStatus ∧
    (takeRequest code rq s).tc.diameter = s.tc.diameter ∧
    (takeRequest code rq s).tc.lastStatus = s.tc.lastStatus := by
  unfold takeRequest
  split
  all_goals
    try unfold answer
    try unfold answerKeeping
    (repeat' split) <;> simp


/-- All that handing a request to MU can do. -/
theorem handRequest_cases (take : Request → State → State) (rq : Request) (s : State) :
    handRequest take rq s = s ∨ handRequest take rq s = setClock rq.time s ∨
    handRequest take rq s = take rq (setClock rq.time s) := by
  unfold handRequest
  rcases whenOnline_cases rq.time (if answerable rq then take rq else id) s with h | h
  · exact .inl h
  · rw [h]
    split <;> simp

/-- What `takeEncoder` leaves unchanged. -/
@[simp] theorem takeEncoder_frame (e : Encoder) (x : Sample) (s : State) :
    (takeEncoder e x s).pending = s.pending ∧ (takeEncoder e x s).clock = s.clock ∧
    (takeEncoder e x s).rp = s.rp ∧ (takeEncoder e x s).nm = s.nm ∧
    (takeEncoder e x s).mu.openWrite = s.mu.openWrite ∧ (takeEncoder e x s).px.mem = s.px.mem ∧
    (takeEncoder e x s).px.clearing = s.px.clearing ∧ (takeEncoder e x s).da = s.da ∧
    (takeEncoder e x s).sc.unwindA = s.sc.unwindA ∧ (takeEncoder e x s).sc.unwindB = s.sc.unwindB ∧
    (takeEncoder e x s).sc.lastStatus = s.sc.lastStatus ∧ (takeEncoder e x s).tc.diameter = s.tc.diameter ∧
    (takeEncoder e x s).tc.lastStatus = s.tc.lastStatus ∧ (takeEncoder e x s).lc.record = s.lc.record ∧
    (takeEncoder e x s).lc.valid = s.lc.valid := by
  unfold takeEncoder
  try dsimp only
  (repeat' split) <;> simp

/-- What `checkEncoder` leaves unchanged. -/
@[simp] theorem checkEncoder_frame (e : Encoder) (s : State) :
    (checkEncoder e s).pending = s.pending ∧ (checkEncoder e s).clock = s.clock ∧
    (checkEncoder e s).rp = s.rp ∧ (checkEncoder e s).nm = s.nm ∧
    (checkEncoder e s).mu.openWrite = s.mu.openWrite ∧ (checkEncoder e s).px.mem = s.px.mem ∧
    (checkEncoder e s).px.clearing = s.px.clearing ∧ (checkEncoder e s).fs.cursor = s.fs.cursor ∧
    (checkEncoder e s).fs.formed = s.fs.formed ∧ (checkEncoder e s).pt.nextBoundary = s.pt.nextBoundary ∧
    (checkEncoder e s).da = s.da ∧ (checkEncoder e s).sg.exitMark = s.sg.exitMark ∧
    (checkEncoder e s).sc.unwindA = s.sc.unwindA ∧ (checkEncoder e s).sc.unwindB = s.sc.unwindB ∧
    (checkEncoder e s).sc.lastStatus = s.sc.lastStatus ∧ (checkEncoder e s).tc = s.tc ∧
    (checkEncoder e s).lc.record = s.lc.record ∧ (checkEncoder e s).lc.valid = s.lc.valid := by
  unfold checkEncoder
  try dsimp only
  (repeat' split) <;> simp

/-- What `takeProbeSample` leaves unchanged. -/
@[simp] theorem takeProbeSample_frame (z : Fin 8) (h : Half) (x : Sample) (s : State) :
    (takeProbeSample z h x s).pending = s.pending ∧ (takeProbeSample z h x s).clock = s.clock ∧
    (takeProbeSample z h x s).rp = s.rp ∧ (takeProbeSample z h x s).nm = s.nm ∧
    (takeProbeSample z h x s).mu.openWrite = s.mu.openWrite ∧ (takeProbeSample z h x s).px = s.px ∧
    (takeProbeSample z h x s).pq = s.pq ∧ (takeProbeSample z h x s).fs.state = s.fs.state ∧
    (takeProbeSample z h x s).fs.cursor = s.fs.cursor ∧ (takeProbeSample z h x s).fs.formed = s.fs.formed ∧
    (takeProbeSample z h x s).pt = s.pt ∧ (takeProbeSample z h x s).zr.locks = s.zr.locks ∧
    (takeProbeSample z h x s).da.classes = s.da.classes ∧
    (takeProbeSample z h x s).sg.exitMark = s.sg.exitMark ∧ (takeProbeSample z h x s).sc = s.sc ∧
    (takeProbeSample z h x s).tc = s.tc ∧ (takeProbeSample z h x s).lc = s.lc := by
  unfold takeProbeSample
  try dsimp only
  (repeat' split) <;> simp

/-- What `checkHalf` leaves unchanged. -/
@[simp] theorem checkHalf_frame (z : Fin 8) (h : Half) (s : State) :
    (checkHalf z h s).pending = s.pending ∧ (checkHalf z h s).clock = s.clock ∧ (checkHalf z h s).rp = s.rp ∧
    (checkHalf z h s).nm = s.nm ∧ (checkHalf z h s).mu.openWrite = s.mu.openWrite ∧
    (checkHalf z h s).px = s.px ∧ (checkHalf z h s).pq = s.pq ∧ (checkHalf z h s).fs.state = s.fs.state ∧
    (checkHalf z h s).fs.cursor = s.fs.cursor ∧ (checkHalf z h s).fs.formed = s.fs.formed ∧
    (checkHalf z h s).pt = s.pt ∧ (checkHalf z h s).zr.locks = s.zr.locks ∧ (checkHalf z h s).da = s.da ∧
    (checkHalf z h s).sg.exitMark = s.sg.exitMark ∧ (checkHalf z h s).sc = s.sc ∧ (checkHalf z h s).tc = s.tc ∧
    (checkHalf z h s).lc = s.lc := by
  unfold checkHalf
  try dsimp only
  (repeat' split) <;> simp

/-- What `changeUnwind` leaves unchanged. -/
@[simp] theorem changeUnwind_frame (u : Unwind) (new : UnwindState) (faults : Bool) (s : State) :
    (changeUnwind u new faults s).pending = s.pending ∧ (changeUnwind u new faults s).clock = s.clock ∧
    (changeUnwind u new faults s).rp = s.rp ∧ (changeUnwind u new faults s).nm = s.nm ∧
    (changeUnwind u new faults s).mu.openWrite = s.mu.openWrite ∧
    (changeUnwind u new faults s).px.mem = s.px.mem ∧
    (changeUnwind u new faults s).px.clearing = s.px.clearing ∧
    (changeUnwind u new faults s).fs.cursor = s.fs.cursor ∧
    (changeUnwind u new faults s).fs.formed = s.fs.formed ∧
    (changeUnwind u new faults s).pt.nextBoundary = s.pt.nextBoundary ∧
    (changeUnwind u new faults s).da = s.da ∧ (changeUnwind u new faults s).sg.exitMark = s.sg.exitMark ∧
    (changeUnwind u new faults s).sc.lastStatus = s.sc.lastStatus ∧ (changeUnwind u new faults s).tc = s.tc ∧
    (changeUnwind u new faults s).lc.record = s.lc.record ∧ (changeUnwind u new faults s).lc.valid = s.lc.valid := by
  unfold changeUnwind
  try dsimp only
  (repeat' split) <;> simp

/-- What `takeUnwindReport` leaves unchanged. -/
@[simp] theorem takeUnwindReport_frame (u : Unwind) (r : UnwindReport) (s : State) :
    (takeUnwindReport u r s).pending = s.pending ∧ (takeUnwindReport u r s).clock = s.clock ∧
    (takeUnwindReport u r s).rp = s.rp ∧ (takeUnwindReport u r s).nm = s.nm ∧
    (takeUnwindReport u r s).mu.openWrite = s.mu.openWrite ∧ (takeUnwindReport u r s).px.mem = s.px.mem ∧
    (takeUnwindReport u r s).px.clearing = s.px.clearing ∧ (takeUnwindReport u r s).fs.cursor = s.fs.cursor ∧
    (takeUnwindReport u r s).fs.formed = s.fs.formed ∧
    (takeUnwindReport u r s).pt.nextBoundary = s.pt.nextBoundary ∧ (takeUnwindReport u r s).da = s.da ∧
    (takeUnwindReport u r s).sg.exitMark = s.sg.exitMark ∧
    (takeUnwindReport u r s).sc.lastStatus = s.sc.lastStatus ∧ (takeUnwindReport u r s).tc = s.tc ∧
    (takeUnwindReport u r s).lc.record = s.lc.record ∧ (takeUnwindReport u r s).lc.valid = s.lc.valid := by
  unfold takeUnwindReport
  try dsimp only
  (repeat' split) <;> simp

/-- What `takeUnwindStatus` leaves unchanged. -/
@[simp] theorem takeUnwindStatus_frame (u : Unwind) (x : Sample) (s : State) :
    (takeUnwindStatus u x s).pending = s.pending ∧ (takeUnwindStatus u x s).clock = s.clock ∧
    (takeUnwindStatus u x s).rp = s.rp ∧ (takeUnwindStatus u x s).nm = s.nm ∧
    (takeUnwindStatus u x s).mu.openWrite = s.mu.openWrite ∧ (takeUnwindStatus u x s).px.mem = s.px.mem ∧
    (takeUnwindStatus u x s).px.clearing = s.px.clearing ∧ (takeUnwindStatus u x s).fs.cursor = s.fs.cursor ∧
    (takeUnwindStatus u x s).fs.formed = s.fs.formed ∧
    (takeUnwindStatus u x s).pt.nextBoundary = s.pt.nextBoundary ∧ (takeUnwindStatus u x s).da = s.da ∧
    (takeUnwindStatus u x s).sg.exitMark = s.sg.exitMark ∧
    (takeUnwindStatus u x s).sc.lastStatus = s.sc.lastStatus ∧ (takeUnwindStatus u x s).tc = s.tc ∧
    (takeUnwindStatus u x s).lc.record = s.lc.record ∧ (takeUnwindStatus u x s).lc.valid = s.lc.valid := by
  unfold takeUnwindStatus
  try dsimp only
  (repeat' split) <;> simp

/-- What `checkDiameter` leaves unchanged. -/
@[simp] theorem checkDiameter_frame (s : State) :
    (checkDiameter s).pending = s.pending ∧ (checkDiameter s).clock = s.clock ∧ (checkDiameter s).rp = s.rp ∧
    (checkDiameter s).nm = s.nm ∧ (checkDiameter s).mu.openWrite = s.mu.openWrite ∧
    (checkDiameter s).px = s.px ∧ (checkDiameter s).pq.slots = s.pq.slots ∧
    (checkDiameter s).pq.runList = s.pq.runList ∧ (checkDiameter s).pq.nextId = s.pq.nextId ∧
    (checkDiameter s).fs.state = s.fs.state ∧ (checkDiameter s).fs.cursor = s.fs.cursor ∧
    (checkDiameter s).fs.formed = s.fs.formed ∧ (checkDiameter s).pt = s.pt ∧ (checkDiameter s).zr = s.zr ∧
    (checkDiameter s).da = s.da ∧ (checkDiameter s).sg.exitMark = s.sg.exitMark ∧
    (checkDiameter s).sc.unwindA = s.sc.unwindA ∧ (checkDiameter s).sc.unwindB = s.sc.unwindB ∧
    (checkDiameter s).sc.lastStatus = s.sc.lastStatus ∧ (checkDiameter s).tc = s.tc ∧
    (checkDiameter s).lc = s.lc := by
  unfold checkDiameter
  try dsimp only
  (repeat' split) <;> simp

/-- What `takeUnwindDiameter` leaves unchanged. -/
@[simp] theorem takeUnwindDiameter_frame (u : Unwind) (x : Sample) (s : State) :
    (takeUnwindDiameter u x s).pending = s.pending ∧ (takeUnwindDiameter u x s).clock = s.clock ∧
    (takeUnwindDiameter u x s).rp = s.rp ∧ (takeUnwindDiameter u x s).nm = s.nm ∧
    (takeUnwindDiameter u x s).mu.openWrite = s.mu.openWrite ∧ (takeUnwindDiameter u x s).px = s.px ∧
    (takeUnwindDiameter u x s).pq.slots = s.pq.slots ∧ (takeUnwindDiameter u x s).pq.runList = s.pq.runList ∧
    (takeUnwindDiameter u x s).pq.nextId = s.pq.nextId ∧ (takeUnwindDiameter u x s).fs.state = s.fs.state ∧
    (takeUnwindDiameter u x s).fs.cursor = s.fs.cursor ∧ (takeUnwindDiameter u x s).fs.formed = s.fs.formed ∧
    (takeUnwindDiameter u x s).pt = s.pt ∧ (takeUnwindDiameter u x s).zr = s.zr ∧
    (takeUnwindDiameter u x s).da = s.da ∧ (takeUnwindDiameter u x s).sg.exitMark = s.sg.exitMark ∧
    (takeUnwindDiameter u x s).sc.lastStatus = s.sc.lastStatus ∧ (takeUnwindDiameter u x s).tc = s.tc ∧
    (takeUnwindDiameter u x s).lc = s.lc := by
  unfold takeUnwindDiameter
  try dsimp only
  (repeat' split) <;> simp

/-- What `swapUnwinds` leaves unchanged. -/
@[simp] theorem swapUnwinds_frame (s : State) :
    (swapUnwinds s).pending = s.pending ∧ (swapUnwinds s).clock = s.clock ∧ (swapUnwinds s).rp = s.rp ∧
    (swapUnwinds s).act = s.act ∧ (swapUnwinds s).report = s.report ∧ (swapUnwinds s).nm = s.nm ∧
    (swapUnwinds s).mu = s.mu ∧ (swapUnwinds s).px = s.px ∧ (swapUnwinds s).pq = s.pq ∧
    (swapUnwinds s).fs = s.fs ∧ (swapUnwinds s).pt = s.pt ∧ (swapUnwinds s).cl = s.cl ∧
    (swapUnwinds s).zr = s.zr ∧ (swapUnwinds s).da = s.da ∧ (swapUnwinds s).sg = s.sg ∧
    (swapUnwinds s).sc.state = s.sc.state ∧ (swapUnwinds s).sc.target = s.sc.target ∧
    (swapUnwinds s).sc.seam = s.sc.seam ∧ (swapUnwinds s).sc.firing = s.sc.firing ∧
    (swapUnwinds s).sc.timeoutTaken = s.sc.timeoutTaken ∧ (swapUnwinds s).sc.lastStatus = s.sc.lastStatus ∧
    (swapUnwinds s).tc = s.tc ∧ (swapUnwinds s).lc = s.lc := by
  unfold swapUnwinds
  try dsimp only
  (repeat' split) <;> simp

/-- What `completeSplice` leaves unchanged. -/
@[simp] theorem completeSplice_frame (s : State) :
    (completeSplice s).pending = s.pending ∧ (completeSplice s).clock = s.clock ∧
    (completeSplice s).rp = s.rp ∧ (completeSplice s).nm = s.nm ∧
    (completeSplice s).mu.openWrite = s.mu.openWrite ∧ (completeSplice s).px = s.px ∧
    (completeSplice s).pq.slots = s.pq.slots ∧ (completeSplice s).pq.runList = s.pq.runList ∧
    (completeSplice s).pq.nextId = s.pq.nextId ∧ (completeSplice s).fs.state = s.fs.state ∧
    (completeSplice s).fs.cursor = s.fs.cursor ∧ (completeSplice s).fs.formed = s.fs.formed ∧
    (completeSplice s).pt = s.pt ∧ (completeSplice s).zr = s.zr ∧ (completeSplice s).da = s.da ∧
    (completeSplice s).sg.exitMark = s.sg.exitMark ∧ (completeSplice s).sc.lastStatus = s.sc.lastStatus ∧
    (completeSplice s).tc = s.tc ∧ (completeSplice s).lc = s.lc := by
  unfold completeSplice
  try dsimp only
  (repeat' split) <;> simp

/-- What `takeSplicerReport` leaves unchanged. -/
@[simp] theorem takeSplicerReport_frame (r : SplicerReport) (s : State) :
    (takeSplicerReport r s).pending = s.pending ∧ (takeSplicerReport r s).clock = s.clock ∧
    (takeSplicerReport r s).rp = s.rp ∧ (takeSplicerReport r s).nm = s.nm ∧
    (takeSplicerReport r s).mu.openWrite = s.mu.openWrite ∧ (takeSplicerReport r s).px = s.px ∧
    (takeSplicerReport r s).pq.slots = s.pq.slots ∧ (takeSplicerReport r s).pq.runList = s.pq.runList ∧
    (takeSplicerReport r s).pq.nextId = s.pq.nextId ∧ (takeSplicerReport r s).fs.state = s.fs.state ∧
    (takeSplicerReport r s).fs.cursor = s.fs.cursor ∧ (takeSplicerReport r s).fs.formed = s.fs.formed ∧
    (takeSplicerReport r s).pt = s.pt ∧ (takeSplicerReport r s).zr = s.zr ∧ (takeSplicerReport r s).da = s.da ∧
    (takeSplicerReport r s).sg.exitMark = s.sg.exitMark ∧ (takeSplicerReport r s).tc = s.tc ∧
    (takeSplicerReport r s).lc = s.lc := by
  unfold takeSplicerReport
  try dsimp only
  (repeat' split) <;> simp

/-- What `takeSplicerStatus` leaves unchanged. -/
@[simp] theorem takeSplicerStatus_frame (x : Sample) (s : State) :
    (takeSplicerStatus x s).pending = s.pending ∧ (takeSplicerStatus x s).clock = s.clock ∧
    (takeSplicerStatus x s).rp = s.rp ∧ (takeSplicerStatus x s).nm = s.nm ∧
    (takeSplicerStatus x s).mu.openWrite = s.mu.openWrite ∧ (takeSplicerStatus x s).px = s.px ∧
    (takeSplicerStatus x s).pq.slots = s.pq.slots ∧ (takeSplicerStatus x s).pq.runList = s.pq.runList ∧
    (takeSplicerStatus x s).pq.nextId = s.pq.nextId ∧ (takeSplicerStatus x s).fs.state = s.fs.state ∧
    (takeSplicerStatus x s).fs.cursor = s.fs.cursor ∧ (takeSplicerStatus x s).fs.formed = s.fs.formed ∧
    (takeSplicerStatus x s).pt = s.pt ∧ (takeSplicerStatus x s).zr = s.zr ∧ (takeSplicerStatus x s).da = s.da ∧
    (takeSplicerStatus x s).sg.exitMark = s.sg.exitMark ∧ (takeSplicerStatus x s).tc = s.tc ∧
    (takeSplicerStatus x s).lc = s.lc := by
  unfold takeSplicerStatus
  try dsimp only
  (repeat' split) <;> simp

/-- What `checkSplice` leaves unchanged. -/
@[simp] theorem checkSplice_frame (s : State) :
    (checkSplice s).pending = s.pending ∧ (checkSplice s).clock = s.clock ∧ (checkSplice s).rp = s.rp ∧
    (checkSplice s).nm = s.nm ∧ (checkSplice s).mu.openWrite = s.mu.openWrite ∧
    (checkSplice s).px.mem = s.px.mem ∧ (checkSplice s).px.clearing = s.px.clearing ∧
    (checkSplice s).fs.cursor = s.fs.cursor ∧ (checkSplice s).fs.formed = s.fs.formed ∧
    (checkSplice s).pt.nextBoundary = s.pt.nextBoundary ∧ (checkSplice s).da = s.da ∧
    (checkSplice s).sg.exitMark = s.sg.exitMark ∧ (checkSplice s).sc.unwindA = s.sc.unwindA ∧
    (checkSplice s).sc.unwindB = s.sc.unwindB ∧ (checkSplice s).sc.lastStatus = s.sc.lastStatus ∧
    (checkSplice s).tc = s.tc ∧ (checkSplice s).lc.record = s.lc.record ∧ (checkSplice s).lc.valid = s.lc.valid := by
  unfold checkSplice
  try dsimp only
  (repeat' split) <;> simp

/-- What `takeTakeUpDiameter` leaves unchanged. -/
@[simp] theorem takeTakeUpDiameter_frame (x : Sample) (s : State) :
    (takeTakeUpDiameter x s).pending = s.pending ∧ (takeTakeUpDiameter x s).clock = s.clock ∧
    (takeTakeUpDiameter x s).rp = s.rp ∧ (takeTakeUpDiameter x s).act = s.act ∧
    (takeTakeUpDiameter x s).report = s.report ∧ (takeTakeUpDiameter x s).nm = s.nm ∧
    (takeTakeUpDiameter x s).mu = s.mu ∧ (takeTakeUpDiameter x s).px = s.px ∧
    (takeTakeUpDiameter x s).pq = s.pq ∧ (takeTakeUpDiameter x s).fs = s.fs ∧
    (takeTakeUpDiameter x s).pt = s.pt ∧ (takeTakeUpDiameter x s).cl = s.cl ∧
    (takeTakeUpDiameter x s).zr = s.zr ∧ (takeTakeUpDiameter x s).da = s.da ∧
    (takeTakeUpDiameter x s).sg = s.sg ∧ (takeTakeUpDiameter x s).sc = s.sc ∧
    (takeTakeUpDiameter x s).tc.lastStatus = s.tc.lastStatus ∧
    (takeTakeUpDiameter x s).tc.current = s.tc.current ∧ (takeTakeUpDiameter x s).tc.closing = s.tc.closing ∧
    (takeTakeUpDiameter x s).tc.currentPiece = s.tc.currentPiece ∧
    (takeTakeUpDiameter x s).tc.lastOrder = s.tc.lastOrder ∧
    (takeTakeUpDiameter x s).tc.heldOrder = s.tc.heldOrder ∧
    (takeTakeUpDiameter x s).tc.stateTime = s.tc.stateTime ∧
    (takeTakeUpDiameter x s).tc.timeoutTaken = s.tc.timeoutTaken ∧ (takeTakeUpDiameter x s).lc = s.lc := by
  unfold takeTakeUpDiameter
  try dsimp only
  (repeat' split) <;> simp

/-- What `takeTakeUpStatus` leaves unchanged. -/
@[simp] theorem takeTakeUpStatus_frame (x : Sample) (s : State) :
    (takeTakeUpStatus x s).pending = s.pending ∧ (takeTakeUpStatus x s).clock = s.clock ∧
    (takeTakeUpStatus x s).rp = s.rp ∧ (takeTakeUpStatus x s).nm = s.nm ∧
    (takeTakeUpStatus x s).mu.openWrite = s.mu.openWrite ∧ (takeTakeUpStatus x s).px = s.px ∧
    (takeTakeUpStatus x s).pq = s.pq ∧ (takeTakeUpStatus x s).fs = s.fs ∧ (takeTakeUpStatus x s).pt = s.pt ∧
    (takeTakeUpStatus x s).cl = s.cl ∧ (takeTakeUpStatus x s).zr = s.zr ∧ (takeTakeUpStatus x s).da = s.da ∧
    (takeTakeUpStatus x s).sg = s.sg ∧ (takeTakeUpStatus x s).sc = s.sc ∧
    (takeTakeUpStatus x s).tc.current = s.tc.current ∧
    (takeTakeUpStatus x s).tc.currentPiece = s.tc.currentPiece ∧
    (takeTakeUpStatus x s).tc.lastOrder = s.tc.lastOrder ∧ (takeTakeUpStatus x s).lc = s.lc := by
  unfold takeTakeUpStatus
  try dsimp only
  (repeat' split) <;> simp

/-- What `checkCut` leaves unchanged. -/
@[simp] theorem checkCut_frame (s : State) :
    (checkCut s).pending = s.pending ∧ (checkCut s).clock = s.clock ∧ (checkCut s).rp = s.rp ∧
    (checkCut s).nm = s.nm ∧ (checkCut s).mu.openWrite = s.mu.openWrite ∧ (checkCut s).px.mem = s.px.mem ∧
    (checkCut s).px.clearing = s.px.clearing ∧ (checkCut s).fs.cursor = s.fs.cursor ∧
    (checkCut s).fs.formed = s.fs.formed ∧ (checkCut s).pt.nextBoundary = s.pt.nextBoundary ∧
    (checkCut s).da = s.da ∧ (checkCut s).sg.exitMark = s.sg.exitMark ∧
    (checkCut s).sc.unwindA = s.sc.unwindA ∧ (checkCut s).sc.unwindB = s.sc.unwindB ∧
    (checkCut s).sc.lastStatus = s.sc.lastStatus ∧ (checkCut s).tc.winder = s.tc.winder ∧
    (checkCut s).tc.diameter = s.tc.diameter ∧ (checkCut s).tc.lastStatus = s.tc.lastStatus ∧
    (checkCut s).tc.current = s.tc.current ∧ (checkCut s).tc.closing = s.tc.closing ∧
    (checkCut s).tc.currentPiece = s.tc.currentPiece ∧ (checkCut s).tc.lastOrder = s.tc.lastOrder ∧
    (checkCut s).tc.forced = s.tc.forced ∧ (checkCut s).tc.heldOrder = s.tc.heldOrder ∧
    (checkCut s).tc.stateTime = s.tc.stateTime ∧ (checkCut s).lc.record = s.lc.record ∧
    (checkCut s).lc.valid = s.lc.valid := by
  unfold checkCut
  try dsimp only
  (repeat' split) <;> simp

/-- What `deliver` leaves unchanged. -/
@[simp] theorem deliver_frame (role : Role) (x : Sample) (s : State) :
    (deliver role x s).pending = s.pending ∧ (deliver role x s).clock = s.clock ∧
    (deliver role x s).rp = s.rp ∧ (deliver role x s).nm = s.nm ∧
    (deliver role x s).mu.openWrite = s.mu.openWrite ∧ (deliver role x s).px.mem = s.px.mem ∧
    (deliver role x s).px.clearing = s.px.clearing ∧ (deliver role x s).da.classes = s.da.classes ∧
    (deliver role x s).lc.record = s.lc.record ∧ (deliver role x s).lc.valid = s.lc.valid := by
  unfold deliver
  try dsimp only
  (repeat' split) <;> simp

/-- What `handSample` leaves unchanged. -/
@[simp] theorem handSample_frame (role : Role) (x : Sample) (s : State) :
    (handSample role x s).pending = s.pending ∧ (handSample role x s).rp = s.rp ∧
    (handSample role x s).nm = s.nm ∧ (handSample role x s).mu.openWrite = s.mu.openWrite ∧
    (handSample role x s).px.mem = s.px.mem ∧ (handSample role x s).px.clearing = s.px.clearing ∧
    (handSample role x s).da.classes = s.da.classes ∧ (handSample role x s).lc.record = s.lc.record ∧
    (handSample role x s).lc.valid = s.lc.valid := by
  unfold handSample
  rcases whenOnline_cases x.time (deliver role x) s with h | h <;> simp [h]

/-- What `forwardFrame` leaves unchanged. -/
@[simp] theorem forwardFrame_frame (f : Frame) (s : State) :
    (forwardFrame f s).pending = s.pending ∧ (forwardFrame f s).clock = s.clock ∧
    (forwardFrame f s).rp.inReset = s.rp.inReset ∧ (forwardFrame f s).rp.address = s.rp.address ∧
    (forwardFrame f s).rp.fast = s.rp.fast ∧ (forwardFrame f s).rp.sending = s.rp.sending ∧
    (forwardFrame f s).rp.sequence = s.rp.sequence ∧ (forwardFrame f s).act = s.act ∧
    (forwardFrame f s).report = s.report ∧ (forwardFrame f s).nm = s.nm ∧ (forwardFrame f s).mu = s.mu ∧
    (forwardFrame f s).px = s.px ∧ (forwardFrame f s).pq = s.pq ∧ (forwardFrame f s).fs = s.fs ∧
    (forwardFrame f s).pt = s.pt ∧ (forwardFrame f s).cl = s.cl ∧ (forwardFrame f s).zr = s.zr ∧
    (forwardFrame f s).da = s.da ∧ (forwardFrame f s).sg = s.sg ∧ (forwardFrame f s).sc = s.sc ∧
    (forwardFrame f s).tc = s.tc ∧ (forwardFrame f s).lc = s.lc := by
  unfold forwardFrame
  try dsimp only
  (repeat' split) <;> simp

/-- What `takeFrameRequest` leaves unchanged. -/
@[simp] theorem takeFrameRequest_frame (f : Frame) (time : Clock) (s : State) :
    (takeFrameRequest f time s).pending = s.pending ∧ (takeFrameRequest f time s).rp = s.rp ∧
    (takeFrameRequest f time s).px.clearing = s.px.clearing ∧
    (takeFrameRequest f time s).pt.nextBoundary = s.pt.nextBoundary ∧
    (takeFrameRequest f time s).da.lastAccrual = s.da.lastAccrual ∧
    (takeFrameRequest f time s).sc.unwindA = s.sc.unwindA ∧
    (takeFrameRequest f time s).sc.unwindB = s.sc.unwindB ∧
    (takeFrameRequest f time s).sc.lastStatus = s.sc.lastStatus ∧
    (takeFrameRequest f time s).tc.diameter = s.tc.diameter ∧
    (takeFrameRequest f time s).tc.lastStatus = s.tc.lastStatus := by
  unfold takeFrameRequest
  split
  · simp
  · rcases handRequest_cases (takeRequest (byteAt f.payload 0)) (requestOf f time) s with h | h | h <;> simp [h]

/-- What `inspectFrame` leaves unchanged. -/
@[simp] theorem inspectFrame_frame (f : Frame) (time : Clock) (s : State) :
    (inspectFrame f time s).pending = s.pending ∧ (inspectFrame f time s).rp = s.rp ∧
    (inspectFrame f time s).nm = s.nm ∧ (inspectFrame f time s).mu.openWrite = s.mu.openWrite ∧
    (inspectFrame f time s).px.mem = s.px.mem ∧ (inspectFrame f time s).px.clearing = s.px.clearing ∧
    (inspectFrame f time s).da.classes = s.da.classes ∧ (inspectFrame f time s).lc.record = s.lc.record ∧
    (inspectFrame f time s).lc.valid = s.lc.valid := by
  unfold inspectFrame
  try dsimp only
  (repeat' split) <;> simp

/-- What `disposeFrame` leaves unchanged. -/
@[simp] theorem disposeFrame_frame (f : Frame) (time : Clock) (s : State) :
    (disposeFrame f time s).pending = s.pending ∧ (disposeFrame f time s).rp.inReset = s.rp.inReset ∧
    (disposeFrame f time s).rp.address = s.rp.address ∧ (disposeFrame f time s).rp.fast = s.rp.fast ∧
    (disposeFrame f time s).rp.sending = s.rp.sending ∧ (disposeFrame f time s).rp.sequence = s.rp.sequence ∧
    (disposeFrame f time s).px.clearing = s.px.clearing := by
  unfold disposeFrame
  try dsimp only
  (repeat' split) <;> simp

/-- What `receive` leaves unchanged. -/
@[simp] theorem receive_frame (burst : List Byte) (time : Clock) (s : State) :
    (receive burst time s).pending = s.pending ∧ (receive burst time s).rp.inReset = s.rp.inReset ∧
    (receive burst time s).rp.address = s.rp.address ∧ (receive burst time s).rp.fast = s.rp.fast ∧
    (receive burst time s).rp.sending = s.rp.sending ∧ (receive burst time s).rp.sequence = s.rp.sequence ∧
    (receive burst time s).px.clearing = s.px.clearing := by
  unfold receive
  try dsimp only
  (repeat' split) <;> simp

/-- What `beginOwn` leaves unchanged. -/
@[simp] theorem beginOwn_frame (dst kind : Byte) (payload : List Byte) (s : State) :
    (beginOwn dst kind payload s).pending = s.pending ∧ (beginOwn dst kind payload s).clock = s.clock ∧
    (beginOwn dst kind payload s).rp.inReset = s.rp.inReset ∧
    (beginOwn dst kind payload s).rp.address = s.rp.address ∧
    (beginOwn dst kind payload s).rp.fast = s.rp.fast ∧
    (beginOwn dst kind payload s).rp.forward = s.rp.forward ∧ (beginOwn dst kind payload s).act = s.act ∧
    (beginOwn dst kind payload s).report = s.report ∧ (beginOwn dst kind payload s).nm = s.nm ∧
    (beginOwn dst kind payload s).mu = s.mu ∧ (beginOwn dst kind payload s).px = s.px ∧
    (beginOwn dst kind payload s).pq = s.pq ∧ (beginOwn dst kind payload s).fs = s.fs ∧
    (beginOwn dst kind payload s).pt = s.pt ∧ (beginOwn dst kind payload s).cl = s.cl ∧
    (beginOwn dst kind payload s).zr = s.zr ∧ (beginOwn dst kind payload s).da = s.da ∧
    (beginOwn dst kind payload s).sg = s.sg ∧ (beginOwn dst kind payload s).sc = s.sc ∧
    (beginOwn dst kind payload s).tc = s.tc ∧ (beginOwn dst kind payload s).lc = s.lc := by
  unfold beginOwn
  try dsimp only
  (repeat' split) <;> simp

/-- What `idlePort` leaves unchanged. -/
@[simp] theorem idlePort_frame (s : State) :
    (idlePort s).pending = s.pending ∧ (idlePort s).clock = s.clock ∧ (idlePort s).rp.inReset = s.rp.inReset ∧
    (idlePort s).rp.address = s.rp.address ∧ (idlePort s).rp.fast = s.rp.fast ∧
    (idlePort s).rp.forward = s.rp.forward ∧ (idlePort s).rp.sequence = s.rp.sequence ∧
    (idlePort s).act = s.act ∧ (idlePort s).report = s.report ∧ (idlePort s).nm = s.nm ∧
    (idlePort s).mu = s.mu ∧ (idlePort s).px = s.px ∧ (idlePort s).pq = s.pq ∧ (idlePort s).fs = s.fs ∧
    (idlePort s).pt = s.pt ∧ (idlePort s).cl = s.cl ∧ (idlePort s).zr = s.zr ∧ (idlePort s).da = s.da ∧
    (idlePort s).sg = s.sg ∧ (idlePort s).sc = s.sc ∧ (idlePort s).tc = s.tc ∧ (idlePort s).lc = s.lc := by
  unfold idlePort
  try dsimp only
  (repeat' split) <;> simp

/-- What `sendReport` leaves unchanged. -/
@[simp] theorem sendReport_frame (s : State) :
    (sendReport s).pending = s.pending ∧ (sendReport s).clock = s.clock ∧
    (sendReport s).rp.inReset = s.rp.inReset ∧ (sendReport s).rp.address = s.rp.address ∧
    (sendReport s).rp.fast = s.rp.fast ∧ (sendReport s).rp.forward = s.rp.forward ∧
    (sendReport s).act = s.act ∧ (sendReport s).nm = s.nm ∧ (sendReport s).mu = s.mu ∧
    (sendReport s).px = s.px ∧ (sendReport s).pq = s.pq ∧ (sendReport s).fs = s.fs ∧ (sendReport s).pt = s.pt ∧
    (sendReport s).cl = s.cl ∧ (sendReport s).zr = s.zr ∧ (sendReport s).da = s.da ∧ (sendReport s).sg = s.sg ∧
    (sendReport s).sc = s.sc ∧ (sendReport s).tc = s.tc ∧ (sendReport s).lc = s.lc := by
  unfold sendReport
  try dsimp only
  (repeat' split) <;> simp

/-- What `sendOwn` leaves unchanged. -/
@[simp] theorem sendOwn_frame (s : State) :
    (sendOwn s).pending = s.pending ∧ (sendOwn s).clock = s.clock ∧ (sendOwn s).rp.inReset = s.rp.inReset ∧
    (sendOwn s).rp.address = s.rp.address ∧ (sendOwn s).rp.fast = s.rp.fast ∧
    (sendOwn s).rp.forward = s.rp.forward ∧ (sendOwn s).act.next = s.act.next ∧ (sendOwn s).nm = s.nm ∧
    (sendOwn s).mu = s.mu ∧ (sendOwn s).px = s.px ∧ (sendOwn s).pq = s.pq ∧ (sendOwn s).fs = s.fs ∧
    (sendOwn s).pt = s.pt ∧ (sendOwn s).cl = s.cl ∧ (sendOwn s).zr = s.zr ∧ (sendOwn s).da = s.da ∧
    (sendOwn s).sg = s.sg ∧ (sendOwn s).sc = s.sc ∧ (sendOwn s).tc = s.tc ∧ (sendOwn s).lc = s.lc := by
  unfold sendOwn
  try dsimp only
  (repeat' split) <;> simp

/-- What `arbitrate` leaves unchanged. -/
@[simp] theorem arbitrate_frame (s : State) :
    (arbitrate s).pending = s.pending ∧ (arbitrate s).clock = s.clock ∧
    (arbitrate s).rp.inReset = s.rp.inReset ∧ (arbitrate s).rp.address = s.rp.address ∧
    (arbitrate s).rp.fast = s.rp.fast ∧ (arbitrate s).act.next = s.act.next ∧ (arbitrate s).nm = s.nm ∧
    (arbitrate s).mu = s.mu ∧ (arbitrate s).px = s.px ∧ (arbitrate s).pq = s.pq ∧ (arbitrate s).fs = s.fs ∧
    (arbitrate s).pt = s.pt ∧ (arbitrate s).cl = s.cl ∧ (arbitrate s).zr = s.zr ∧ (arbitrate s).da = s.da ∧
    (arbitrate s).sg = s.sg ∧ (arbitrate s).sc = s.sc ∧ (arbitrate s).tc = s.tc ∧ (arbitrate s).lc = s.lc := by
  unfold arbitrate
  try dsimp only
  (repeat' split) <;> simp

end Sys2Proof.Machine
end

