-- ==== Sys2Proof/Laws/Memory.lean ====
section
/-! SUPPORT. Pattern memory: reads after writes, and the canonical form that every write keeps (section 1.1). -/
namespace Sys2Proof.Machine

/-- A canonical memory from `low` up reads 0 below it. -/
theorem Memory.read_below {low high : Nat} {m : List Host.Cell} (h : Memory.wfFrom low high m = true) {a : Nat}
    (ha : a < low) : Memory.read m a = 0 := by
  induction m generalizing low with
  | nil => rfl
  | cons e rest ih =>
    obtain ⟨b, v⟩ := e
    simp only [Memory.wfFrom, Bool.and_eq_true, decide_eq_true_eq] at h
    have hb : a ≠ b := by omega
    simp only [Memory.read, hb, if_false]
    exact ih h.2 (by omega)

/-- A canonical memory may be taken from a lower place. -/
theorem Memory.wfFrom_mono {low low' high : Nat} {m : List Host.Cell} (h : Memory.wfFrom low high m = true)
    (hl : low' ≤ low) : Memory.wfFrom low' high m = true := by
  cases m with
  | nil => rfl
  | cons e rest =>
    obtain ⟨b, v⟩ := e
    simp only [Memory.wfFrom, Bool.and_eq_true, decide_eq_true_eq] at h ⊢
    exact ⟨⟨⟨by omega, h.1.1.2⟩, h.1.2⟩, h.2⟩

/-- A write within the bounds keeps the canonical form. -/
theorem Memory.wfFrom_write {low high : Nat} {m : List Host.Cell} (h : Memory.wfFrom low high m = true) {a : Nat}
    (v : Byte) (hl : low ≤ a) (hh : a < high) : Memory.wfFrom low high (Memory.write m a v) = true := by
  induction m generalizing low with
  | nil =>
    unfold Memory.write
    split
    · rfl
    · simp_all [Memory.wfFrom]
  | cons e rest ih =>
    obtain ⟨b, w⟩ := e
    simp only [Memory.wfFrom, Bool.and_eq_true, decide_eq_true_eq] at h
    unfold Memory.write
    split
    · split
      · simp_all [Memory.wfFrom]
      · simp only [Memory.wfFrom, Bool.and_eq_true, decide_eq_true_eq]
        exact ⟨⟨⟨hl, hh⟩, by assumption⟩, ⟨⟨by omega, h.1.1.2⟩, h.1.2⟩, h.2⟩
    · split
      · rename_i hab
        subst hab
        split
        · exact Memory.wfFrom_mono h.2 (by omega)
        · simp only [Memory.wfFrom, Bool.and_eq_true, decide_eq_true_eq]
          exact ⟨⟨⟨hl, hh⟩, by assumption⟩, h.2⟩
      · simp only [Memory.wfFrom, Bool.and_eq_true, decide_eq_true_eq]
        exact ⟨h.1, ih h.2 (by omega)⟩

/-- A byte just written reads back. -/
theorem Memory.read_write_same {low high : Nat} {m : List Host.Cell} (h : Memory.wfFrom low high m = true) (a : Nat)
    (v : Byte) : Memory.read (Memory.write m a v) a = v := by
  induction m generalizing low with
  | nil =>
    unfold Memory.write
    split <;> simp_all [Memory.read]
  | cons e rest ih =>
    obtain ⟨b, w⟩ := e
    simp only [Memory.wfFrom, Bool.and_eq_true, decide_eq_true_eq] at h
    unfold Memory.write
    split
    · rename_i hab
      split
      · rename_i hv
        have hb : a ≠ b := by omega
        simp only [Memory.read, hb, if_false, hv]
        exact Memory.read_below h.2 (by omega)
      · simp [Memory.read]
    · split
      · rename_i hab
        subst hab
        split
        · rename_i hv
          rw [hv]
          exact Memory.read_below h.2 (by omega)
        · simp [Memory.read]
      · rename_i hab
        simp only [Memory.read, hab, if_false]
        exact ih h.2

/-- A write leaves every other byte. -/
theorem Memory.read_write_ne (m : List Host.Cell) {a c : Nat} (v : Byte) (hc : c ≠ a) :
    Memory.read (Memory.write m a v) c = Memory.read m c := by
  induction m with
  | nil =>
    unfold Memory.write
    split <;> simp [Memory.read, hc]
  | cons e rest ih =>
    obtain ⟨b, w⟩ := e
    unfold Memory.write
    split
    · split <;> simp [Memory.read, hc]
    · split
      · rename_i hab
        subst hab
        split <;> simp [Memory.read, hc]
      · simp [Memory.read, ih]

/-- Consecutive writes within the bounds keep the canonical form. -/
theorem Memory.wfFrom_writeBytes {high : Nat} (bs : List Byte) {m : List Host.Cell} {a : Nat}
    (h : Memory.wfFrom 0 high m = true) (hh : a + bs.length ≤ high) :
    Memory.wfFrom 0 high (Memory.writeBytes m a bs) = true := by
  induction bs generalizing m a with
  | nil => exact h
  | cons v vs ih =>
    simp only [List.length_cons] at hh
    exact ih (Memory.wfFrom_write h v (by omega) (by omega)) (by omega)

/-- Consecutive writes leave every byte outside them. -/
theorem Memory.read_writeBytes_out (bs : List Byte) (m : List Host.Cell) {a c : Nat}
    (hc : c < a ∨ a + bs.length ≤ c) : Memory.read (Memory.writeBytes m a bs) c = Memory.read m c := by
  induction bs generalizing m a with
  | nil => rfl
  | cons v vs ih =>
    simp only [List.length_cons] at hc
    rw [Memory.writeBytes, ih _ (by omega), Memory.read_write_ne _ _ (by omega)]

/-- Consecutive bytes written read back. -/
theorem Memory.read_writeBytes_in {high : Nat} (bs : List Byte) {m : List Host.Cell} {a k : Nat}
    (h : Memory.wfFrom 0 high m = true) (hh : a + bs.length ≤ high) (hk : k < bs.length) :
    Memory.read (Memory.writeBytes m a bs) (a + k) = bs[k] := by
  induction bs generalizing m a k with
  | nil => simp at hk
  | cons v vs ih =>
    simp only [List.length_cons] at hh hk
    have hw := Memory.wfFrom_write h v (a := a) (by omega) (by omega)
    cases k with
    | zero =>
      rw [Memory.writeBytes, Memory.read_writeBytes_out _ _ (by omega)]
      exact Memory.read_write_same h a v
    | succ k =>
      have := ih hw (a := a + 1) (k := k) (by omega) (by omega)
      rw [Memory.writeBytes, show a + (k + 1) = a + 1 + k by omega, this]
      rfl

/-- An entry written at an index of the table keeps pattern memory canonical (R2). -/
theorem Memory.wf_writeEntry {m : List Host.Cell} (h : Memory.wf m = true) {i : Nat} (hi : i < Config.patternEntries)
    (bs : List Byte) : Memory.wf (writeEntry m i bs) = true := by
  unfold Memory.wf writeEntry at *
  apply Memory.wfFrom_writeBytes _ h
  simp only [Config.patternEntries, Config.entryBytes, List.length_take] at *
  omega

/-- The memory a clear leaves is canonical (R1). -/
theorem Memory.wf_nil : Memory.wf [] = true := rfl

/-- A pattern entry written reads back whole (R2, R3). -/
theorem readEntry_writeEntry {m : List Host.Cell} (h : Memory.wf m = true) {i : Nat} (hi : i < Config.patternEntries)
    {bs : List Byte} (hb : bs.length = Config.entryBytes) : readEntry (writeEntry m i bs) i = bs := by
  have ht : bs.take Config.entryBytes = bs := by rw [← hb]; simp
  apply List.ext_getElem
  · simp [readEntry, hb]
  · intro k h1 h2
    simp only [readEntry, writeEntry, List.getElem_map, List.getElem_range, ht]
    apply Memory.read_writeBytes_in bs h
    simp only [Config.patternEntries, Config.entryBytes] at *
    omega

/-- A pattern entry written leaves every other (R2). -/
theorem readEntry_writeEntry_ne (m : List Host.Cell) {i j : Nat} (hij : j ≠ i) (bs : List Byte) :
    readEntry (writeEntry m i bs) j = readEntry m j := by
  unfold readEntry writeEntry
  apply List.map_congr_left
  intro k hk
  apply Memory.read_writeBytes_out
  simp only [Config.entryBytes, List.length_take, List.mem_range] at *
  omega

end Sys2Proof.Machine
end

