-- ==== Sys2Proof/Laws/State.lean ====
section
/-! SUPPORT. The fields each named update of State writes, true by unfolding; what it leaves unchanged stands in Frames1
to Frames4. -/
namespace Sys2Proof.Machine

/-! ### The queue of waiting commands and the clock -/

@[simp] theorem State.withPending_pending (s : State) (q : List Instr) : (s.withPending q).pending = q := rfl
@[simp] theorem State.withPending_withPending (s : State) (p q : List Instr) :
    (s.withPending p).withPending q = s.withPending q := rfl
@[simp] theorem State.withPending_self (s : State) : s.withPending s.pending = s := rfl

/-- Waiting commands changed leave the part as it stands. -/
@[simp] theorem State.withPending_frame (s : State) (q : List Instr) :
    (s.withPending q).clock = s.clock ∧ (s.withPending q).rp = s.rp ∧ (s.withPending q).act = s.act ∧
    (s.withPending q).report = s.report ∧ (s.withPending q).nm = s.nm ∧ (s.withPending q).mu = s.mu ∧
    (s.withPending q).px = s.px ∧ (s.withPending q).pq = s.pq ∧ (s.withPending q).fs = s.fs ∧
    (s.withPending q).pt = s.pt ∧ (s.withPending q).cl = s.cl ∧ (s.withPending q).zr = s.zr ∧
    (s.withPending q).da = s.da ∧ (s.withPending q).sg = s.sg ∧ (s.withPending q).sc = s.sc ∧
    (s.withPending q).tc = s.tc ∧ (s.withPending q).lc = s.lc := by
  simp [State.withPending]

@[simp] theorem setClock_clock (t : Clock) (s : State) : (setClock t s).clock = t := rfl
@[simp] theorem setClock_setClock (t u : Clock) (s : State) : setClock t (setClock u s) = setClock t s := rfl
@[simp] theorem online_setClock (t : Clock) (s : State) : online (setClock t s) = online s := rfl

/-! ### Reports, flags and the open write -/

@[simp] theorem pushReport_report (r : Report) (s : State) : (pushReport r s).report = appendReport r s.report := rfl
@[simp] theorem setFlag_flags (f : Flag) (s : State) : (setFlag f s).mu.flags = s.mu.flags ||| flagBit f := rfl
@[simp] theorem setOpenWrite_openWrite (w : Option OpenWrite) (s : State) : (setOpenWrite w s).mu.openWrite = w := rfl

/-! ### The ACT queue -/

@[simp] theorem placeFold_act (left right : Nat) (dir : Dir) (s : State) :
    (placeFold left right dir s).act = appendAct .blade (.fold left right dir) s.act := rfl
theorem placeAct_act (role : ActRole) (cmd : ActCommand) (s : State) :
    (placeAct role cmd s).act = if actPending role s.act then replaceAct role cmd s.act else appendAct role cmd s.act := rfl
@[simp] theorem replaceAct_next (role : ActRole) (cmd : ActCommand) (q : ActQueue) :
    (replaceAct role cmd q).next = q.next := rfl
@[simp] theorem appendAct_next (role : ActRole) (cmd : ActCommand) (q : ActQueue) :
    (appendAct role cmd q).next = q.next + 1 := rfl

/-! ### Pieces, slots and zones -/

@[simp] theorem modifyPiece_pieces (id : Nat) (f : Piece → Piece) (s : State) :
    (modifyPiece id f s).pq.pieces = s.pq.pieces.map fun p => if p.id = id then f p else p := rfl
@[simp] theorem modifySlot_slots (i : Fin 8) (f : OrderSlot → OrderSlot) (s : State) :
    (modifySlot i f s).pq.slots = s.pq.slots.set i (f s.pq.slots[i]) := rfl
@[simp] theorem modifyZone_zones (z : Fin 8) (f : Zone → Zone) (s : State) :
    (modifyZone z f s).zr.zones = s.zr.zones.set z (f s.zr.zones[z]) := rfl
@[simp] theorem appendPiece_pieces (p : Piece) (s : State) : (appendPiece p s).pq.pieces = s.pq.pieces ++ [p] := rfl
@[simp] theorem appendPiece_nextId (p : Piece) (s : State) : (appendPiece p s).pq.nextId = nextPieceId p.id := rfl

/-- The slot that was changed. -/
theorem modifySlot_self (i : Fin 8) (f : OrderSlot → OrderSlot) (s : State) :
    (modifySlot i f s).pq.slots[i] = f s.pq.slots[i] := by simp

/-- Every other slot stands. -/
theorem modifySlot_ne {i j : Fin 8} (h : j ≠ i) (f : OrderSlot → OrderSlot) (s : State) :
    (modifySlot i f s).pq.slots[j] = s.pq.slots[j] := by
  have : (i : Nat) ≠ j := fun e => h (Fin.ext e.symm)
  simp [this]

/-- The zone that was changed. -/
theorem modifyZone_self (z : Fin 8) (f : Zone → Zone) (s : State) :
    (modifyZone z f s).zr.zones[z] = f s.zr.zones[z] := by simp

/-- Every other zone stands. -/
theorem modifyZone_ne {z y : Fin 8} (h : y ≠ z) (f : Zone → Zone) (s : State) :
    (modifyZone z f s).zr.zones[y] = s.zr.zones[y] := by
  have : (z : Nat) ≠ y := fun e => h (Fin.ext e.symm)
  simp [this]

/-! ### Encoders and unwinds -/

/-- The record that was set, and the other one. -/
@[simp] theorem encoderOf_setEncoder (e d : Encoder) (r : EncoderRecord) (s : State) :
    encoderOf d (setEncoder e r s).pt = if d = e then r else encoderOf d s.pt := by
  cases e <;> cases d <;> rfl

/-- The unwind that was changed. -/
@[simp] theorem unwindOf_modifyUnwind (u v : Unwind) (f : UnwindRecord → UnwindRecord) (s : State) :
    unwindOf v (modifyUnwind u f s).sc = if v = u then f (unwindOf u s.sc) else unwindOf v s.sc := by
  cases u <;> cases v <;> rfl

/-- What `modifyUnwind` leaves of SC. -/
@[simp] theorem modifyUnwind_sc (u : Unwind) (f : UnwindRecord → UnwindRecord) (s : State) :
    (modifyUnwind u f s).sc.state = s.sc.state ∧ (modifyUnwind u f s).sc.target = s.sc.target ∧
    (modifyUnwind u f s).sc.seam = s.sc.seam ∧ (modifyUnwind u f s).sc.firing = s.sc.firing ∧
    (modifyUnwind u f s).sc.timeoutTaken = s.sc.timeoutTaken ∧ (modifyUnwind u f s).sc.lastStatus = s.sc.lastStatus := by
  cases u <;> simp [modifyUnwind]

@[simp] theorem otherUnwind_otherUnwind (u : Unwind) : otherUnwind (otherUnwind u) = u := by cases u <;> rfl

end Sys2Proof.Machine
end

