-- ==== Sys2Proof/Laws/Ops.lean ====
section
/-! SUPPORT. What the shared operations do, once for each: the flags and the REPORT queue, the ACT queue, the governor,
the line fault, the piece ids, stored pattern entries and credited cells. The statements' proofs cite these in place of unfolding the operations. -/
namespace Sys2Proof.Machine

/-! ### Flags and reports -/

theorem appendReport_length_le {r : Report} {q : List Report} (h : q.length ≤ 16) : (appendReport r q).length ≤ 16 := by
  unfold appendReport
  split
  · rename_i hlt
    simp only [Config.reportLimit] at hlt
    simp only [List.length_append, List.length_cons, List.length_nil]
    omega
  · simp only [List.length_append, List.length_tail, List.length_cons, List.length_nil]
    omega

/-- A placed frame keeps the queue within 16. -/
theorem placeReport_length_le {r : Report} {s : State} (h : s.report.length ≤ 16) : (placeReport r s).report.length ≤ 16 := by
  unfold placeReport
  dsimp only
  split
  · exact appendReport_length_le h
  · split
    · exact appendReport_length_le h
    · split
      · exact appendReport_length_le (appendReport_length_le h)
      · exact appendReport_length_le h

theorem getLsbD_or_flagBit (x : BitVec 18) (f g : Flag) :
    (x ||| flagBit f).getLsbD g.number = (x.getLsbD g.number || decide (g = f)) := by
  cases f <;> cases g <;> simp [flagBit, Flag.number]

theorem flagHeld_setFlag (f g : Flag) (s : State) : flagHeld g (setFlag f s) = (flagHeld g s || decide (g = f)) := by
  simp only [flagHeld, setFlag_flags, getLsbD_or_flagBit]

/-- Placing a frame clears no flag. -/
theorem flagHeld_placeReport {g : Flag} {s : State} (r : Report) (h : flagHeld g s = true) :
    flagHeld g (placeReport r s) = true := by
  have push : ∀ (q : Report) (u : State), flagHeld g (pushReport q u) = flagHeld g u := fun _ _ => rfl
  unfold placeReport
  dsimp only
  split
  · rwa [push]
  · split
    · rwa [push]
    · split <;> simp [push, flagHeld_setFlag, h]

/-- A raised flag holds 1. -/
theorem flagHeld_raise (f : Flag) (s : State) : flagHeld f (raise f s) = true := by
  unfold raise
  dsimp only
  split
  · assumption
  · split
    · exact flagHeld_placeReport _ (by simp [flagHeld_setFlag])
    · simp [flagHeld_setFlag]

/-- Raising a flag clears none. -/
theorem flagHeld_raise_of_held {g : Flag} {s : State} (f : Flag) (h : flagHeld g s = true) : flagHeld g (raise f s) = true := by
  unfold raise
  dsimp only
  split
  · assumption
  · split
    · exact flagHeld_placeReport _ (by simp [flagHeld_setFlag, h])
    · simp [flagHeld_setFlag, h]

theorem raise_length_le {f : Flag} {s : State} (h : s.report.length ≤ 16) : (raise f s).report.length ≤ 16 := by
  unfold raise
  dsimp only
  split
  · assumption
  · split
    · exact placeReport_length_le h
    · exact h

/-! ### The ACT queue -/

/-- A frame placed in a slot waits there with its command. -/
theorem placeAct_waits (role : ActRole) (cmd : ActCommand) (s : State) :
    ∃ e ∈ (placeAct role cmd s).act.entries, e.role = role ∧ e.command = cmd := by
  rw [placeAct_act]
  split
  · rename_i h
    simp only [actPending, List.any_eq_true, decide_eq_true_eq] at h
    obtain ⟨e, he, hr⟩ := h
    refine ⟨{ e with command := cmd }, ?_, hr, rfl⟩
    simp only [replaceAct, List.mem_map]
    exact ⟨e, he, by simp [hr]⟩
  · exact ⟨{ role := role, placement := s.act.next, command := cmd }, by simp [appendAct], rfl, rfl⟩

/-- A frame placed in one slot leaves every other slot's frames. -/
theorem placeAct_filter_ne {role other : ActRole} (h : other ≠ role) (cmd : ActCommand) (s : State) :
    ((placeAct role cmd s).act.entries.filter fun e => decide (e.role = other)) =
      s.act.entries.filter fun e => decide (e.role = other) := by
  rw [placeAct_act]
  split
  · simp only [replaceAct]
    generalize s.act.entries = l
    induction l with
    | nil => rfl
    | cons e l ih =>
      simp only [List.map_cons, List.filter_cons, ih]
      by_cases hr : e.role = role
      · simp [hr, h.symm]
      · simp [hr]
  · simp [appendAct, List.filter_append, h.symm]

/-! ### The governor -/

/-- What commanding the belt does to SG: the command stands, the limits are untouched. -/
theorem commandBelt_sg (cmd : Nat) (s : State) : (commandBelt cmd s).sg = { s.sg with belt := cmd } := by
  unfold commandBelt
  split
  · rename_i h
    subst h
    rfl
  · unfold recomputeInfeed
    dsimp only
    split
    · simp
    · simp

/-- What a recompute does to SG: the limits of R120 to R124 and the command of R125. -/
theorem recompute_sg (s : State) :
    (recompute s).sg =
      { limitsOf s with belt := beltCommand s.lc.line s.lc.record (limitsOf s).vHeat (limitsOf s).vInf } := by
  unfold recompute
  dsimp only
  rw [commandBelt_sg]
  unfold raiseIf
  split <;> simp

/-- The belt command is never above the setpoint (R125). -/
theorem beltCommand_le_setpoint (line : LineState) (r : LineRecord) (vHeat vInf : Nat) :
    beltCommand line r vHeat vInf ≤ r.setpoint := by
  cases line <;> simp only [beltCommand]
  · omega
  · split
    · rename_i h
      simp only [crawlFloor, Bool.and_eq_true, decide_eq_true_eq] at h
      exact h.2
    · simp only [lowestLimit]
      omega
  · omega
  · omega
  · omega

/-! ### Piece ids -/

theorem nextPieceId_range (n : Nat) : 1 ≤ nextPieceId n ∧ nextPieceId n ≤ 65535 := by
  unfold nextPieceId
  split <;> omega

theorem freeId_range (ps : List Piece) (fuel n : Nat) (h : 1 ≤ n ∧ n ≤ 65535) :
    1 ≤ freeId ps fuel n ∧ freeId ps fuel n ≤ 65535 := by
  induction fuel generalizing n with
  | zero => exact h
  | succ fuel ih =>
    unfold freeId
    split
    · exact ih _ (nextPieceId_range n)
    · exact h

/-! ### Pattern entries -/

@[simp] theorem runMask_length : runMask.length = 13 := rfl

/-- Every kind's layout covers 16 bytes. -/
@[simp] theorem entryMask_length (e : List Byte) : (entryMask e).length = 16 := by
  unfold entryMask
  split
  · rfl
  · split <;> rfl
  · rfl
  · rfl

/-- An entry is stored as 16 bytes. -/
theorem cleanEntry_length {e : List Byte} (h : e.length = 16) : (cleanEntry e).length = 16 := by
  simp [cleanEntry, h]

/-- A byte of an entry as stored: the bits its kind's layout uses. -/
theorem byteAt_cleanEntry {e : List Byte} (h : e.length = 16) {k : Nat} (hk : k < 16) :
    byteAt (cleanEntry e) k = byteAt e k &&& byteAt (entryMask e) k := by
  simp [byteAt, cleanEntry, List.getD_eq_getElem?_getD, h, hk]

/-! ### Credited cells -/

/-- What a credit can do to a cell: past the limit it is saturated, a saturated one stands, any other takes the
quotient and keeps the remainder (R110, R114). -/
theorem creditCell_cases (tdiff ms : Nat) (c : BeltCell) :
    (16777215 < c.dose + (tdiff * ms + c.residue) / 1000 ∧
        creditCell tdiff ms c = { c with dose := 16777215, residue := 0 }) ∨
      (c.dose + (tdiff * ms + c.residue) / 1000 ≤ 16777215 ∧ c.saturated = true ∧ creditCell tdiff ms c = c) ∨
      (c.dose + (tdiff * ms + c.residue) / 1000 ≤ 16777215 ∧ c.saturated = false ∧
        creditCell tdiff ms c =
          { c with dose := c.dose + (tdiff * ms + c.residue) / 1000, residue := (tdiff * ms + c.residue) % 1000 }) := by
  by_cases h : 16777215 < c.dose + (tdiff * ms + c.residue) / 1000
  · exact .inl ⟨h, by simp [creditCell, Config.doseLimit, h]⟩
  · cases hs : c.saturated with
    | true => exact .inr (.inl ⟨Nat.le_of_not_lt h, rfl, by simp [creditCell, Config.doseLimit, h, hs]⟩)
    | false => exact .inr (.inr ⟨Nat.le_of_not_lt h, rfl, by simp [creditCell, Config.doseLimit, h, hs]⟩)

/-- A credit keeps a cell's dose and residue in range, and its dose never decreases (R114). -/
theorem creditCell_range (tdiff ms : Nat) {c : BeltCell} (hd : c.dose ≤ 16777215) (hr : c.residue ≤ 999) :
    (creditCell tdiff ms c).dose ≤ 16777215 ∧ (creditCell tdiff ms c).residue ≤ 999 ∧
      c.dose ≤ (creditCell tdiff ms c).dose := by
  obtain ⟨-, h⟩ | ⟨-, -, h⟩ | ⟨hl, -, h⟩ := creditCell_cases tdiff ms c <;> rw [h]
  · exact ⟨by simp, by simp, hd⟩
  · exact ⟨hd, hr, Nat.le_refl _⟩
  · exact ⟨hl, by dsimp only; omega, Nat.le_add_right _ _⟩

end Sys2Proof.Machine
end

