-- ==== Sys2Proof/WellFormed.lean ====
section
/-! DEFINITION. Which commands the ring and the pins can bring to the part: the checks on the operands alone. -/
namespace Sys2Proof

/-- A request MU can be handed: SRC in 1..63 (R180) and at most 62 argument bytes (R194). -/
def Request.wellFormed (rq : Request) : Bool :=
  decide (1 ≤ rq.src.toNat ∧ rq.src.toNat ≤ 63) && decide (rq.args.length ≤ 62)

/-- The well-formed commands. REQUEST_UNKNOWN carries a code outside the table of section 11.1, and the two rows of
CLEAR are told apart by the target byte: 0xFF names the line. -/
def Instr.wellFormed : Instr → Bool
  | .resetAssert => true
  | .resetRelease _ _ => true
  | .patternClearDone _ => true
  | .frameReceived _ _ => true
  | .portFree _ => true
  | .requestUnknown code rq => rq.wellFormed && !decide (1 ≤ code.toNat ∧ code.toNat ≤ 19)
  | .write rq => rq.wellFormed
  | .continueWrite rq => rq.wellFormed
  | .closeWrite rq => rq.wellFormed
  | .writeTimeout _ => true
  | .read rq => rq.wellFormed
  | .status rq => rq.wellFormed
  | .start rq => rq.wellFormed
  | .stop rq => rq.wellFormed
  | .restart rq => rq.wellFormed
  | .release rq => rq.wellFormed
  | .admitPiece rq => rq.wellFormed
  | .enlist rq => rq.wellFormed
  | .withdraw rq => rq.wellFormed
  | .clearSlot rq => rq.wellFormed && decide (rq.args ≠ [0xFF])
  | .clearLine rq => rq.wellFormed && decide (rq.args = [0xFF])
  | .standby rq => rq.wellFormed
  | .wake rq => rq.wellFormed
  | .purge rq => rq.wellFormed
  | .speed rq => rq.wellFormed
  | .acknowledge rq => rq.wellFormed
  | .lineReset rq => rq.wellFormed
  | .encoderSample _ _ => true
  | .encoderStale _ _ => true
  | .probeSample _ _ _ => true
  | .halfExpiry _ _ _ => true
  | .unwindStatusSample _ _ => true
  | .unwindDiameterSample _ _ => true
  | .splicerStatusSample _ => true
  | .spliceTimeout _ => true
  | .takeUpDiameterSample _ => true
  | .takeUpStatusSample _ => true
  | .cutTimeout _ => true

end Sys2Proof
end

