-- ==== Sys2Proof/Tests/Slice0.lean ====
section
/-! SUPPORT. Tests of the model's author: the well-formedness checks refuse what they should, worked values of the
manual come out of single steps (each test names its source), and for every statement with hypotheses a state and
operands that meet them. -/
namespace Sys2Proof.Tests
open Sys2Proof.Machine

/-! ### Builders -/

/-- The state after a command. -/
def after (c : Instr) (s : State) : State :=
  match exec c s with
  | .next t => t
  | .fault _ => s
  | .refused _ => s

/-- A request from node 40, tag 1, at reading 500. -/
def rq (args : List Byte) : Request := { src := 40, tag := 1, args := args, time := 500 }

/-- A good sample at reading 500. -/
def smp (value : Int) : Sample := { value := BitVec.ofInt 32 value, qual := 0, stamp := 500, time := 500 }

/-- Reset, with the pattern-memory clear over. -/
def base : State := { State.reset with px.clearing := false }

/-- An encoder record in TRACKING at a position, last reported at reading 400. -/
def tracking (held : Position) : EncoderRecord :=
  { EncoderRecord.reset with state := .tracking, raw := held, held := held, lastStamp := 400, lastArrival := 400 }

/-- A line record that runs at 300 mm/s. -/
def record : LineRecord :=
  { LineRecord.reset with beltMax := 400, infeedMax := 800, setpoint := 300, pauseOnRestart := true }

/-- The zone entry of the example of section 5.7. -/
def stored : ZoneStored :=
  { start := 0, length := 10, setpoint := 1700, standbyPoint := 1200, band := 15, fastThreshold := 60, stepFast := 40
    stepSlow := 10, valveMax := 900, lock := false, manual := false, manualUpper := 0, manualLower := 0 }

/-- A FRESH half at a temperature. -/
def fresh (temp valve : Nat) : HalfRecord :=
  { temp := some temp, fresh := .fresh, lastArrival := 400, valve := valve, lastSent := some valve }

/-- Zone 1 enabled, in a state, with both halves FRESH. -/
def zone (st : ZoneState) : Zone :=
  { Zone.reset with
    stored := stored, state := st, target := some 1700, temp := some 1690, upper := fresh 1700 300
    lower := fresh 1680 280 }

/-- A piece of a flat order of 4000 units. -/
def piece (id : Nat) (start : Position) (st : PieceState) : Piece :=
  { newPiece (flatPlan 4000 0) base with
    id := id, slot := some 1, beltStart := start, beltEnd := start + 4000, state := st
    span := if st = .admitted then none else some (1000, 5000) }

/-- A cell that names a piece. -/
def cell (index : Nat) (formed : Position) (id dose : Nat) : BeltCell :=
  { index := index, formed := formed, piece := some id, dose := dose, residue := 0, seam := false, uncertain := false }

/-- A line in a state, drawing piece 1 with piece 2 admitted and three cells on the belt. -/
def working (line : LineState) : State :=
  { base with
    clock := 450
    lc.line := line, lc.record := record, lc.valid := true
    lc.cause := if line = .fault then some .cutTimeout else none
    sg.belt := if line = .running then 300 else if line = .hold then 20 else 0
    sg.vHeat := 400, sg.vInf := 800
    pt.infeed := tracking 2000, pt.belt := tracking 6500, pt.nextBoundary := 7000
    fs.state := if line = .hold then .held else .forming
    fs.cursor := { FoldCursor.none with piece := some 1, itemStart := 1000, itemFormed := 9000, boundary := 5000 }
    fs.formed := 10000
    pq.pieces := [piece 1 9000 .forming, piece 2 13000 .admitted]
    pq.nextId := 3
    pq.slots := base.pq.slots.set 1 { OrderSlot.reset with state := .active, dtype := .flat, flatLength := 4000, requested := 9 }
    pq.runList := [1]
    cl := [cell 0 9900 1 10, cell 1 9000 1 20, cell 127 8000 7 30]
    zr.zones := base.zr.zones.set 0 (zone .ready)
    sc.unwindA := { state := .active, diameter := some 800, lastStatus := some .loaded }
    sc.unwindB := { state := .loaded, diameter := none, lastStatus := some .loaded }
    sc.state := .ready
    tc.currentPiece := some 7, tc.current := { roll := 5, ids := [7], unlisted := 0 } }

/-- A frame as another node sends it. -/
def frameFrom (src : BitVec 6) (dst kind : Byte) (payload : List Byte) : List Byte :=
  ownFrame dst kind payload { base with rp.address := src, clock := 7 }

/-- A node map entry. -/
def binding (node : BitVec 6) (channel role : Byte) : NodeEntry :=
  { valid := true, node := node, channel := channel, role := role, zone := 0, half := .upper }

/-! ### Well-formedness -/

theorem test_wf_source : (Instr.stop { rq [] with src := 0 }).wellFormed = false := by decide
theorem test_wf_source_high : (Instr.stop { rq [] with src := 64 }).wellFormed = false := by decide
theorem test_wf_length : (Instr.write (rq (List.replicate 63 0))).wellFormed = false := by decide
theorem test_wf_code : (Instr.requestUnknown 19 (rq [])).wellFormed = false := by decide
theorem test_wf_slot : (Instr.clearSlot (rq [0xFF])).wellFormed = false := by decide
theorem test_wf_line : (Instr.clearLine (rq [0])).wellFormed = false := by decide
theorem test_wf_good : (Instr.requestUnknown 20 (rq [0])).wellFormed = true ∧ (Instr.clearLine (rq [0xFF])).wellFormed = true := by decide

/-- The table gives no row bits (spec/opcode_table.json). -/
theorem test_no_row_has_bits : decodeTableWord 8 0 = none ∧ State.reset.withFetchWord 8 0 = State.reset := by decide

/-! ### Worked values of the manual -/

set_option maxRecDepth 8000 in
/-- The CRC of the nine characters 123456789 (R195). -/
theorem test_crc : crc [0x31, 0x32, 0x33, 0x34, 0x35, 0x36, 0x37, 0x38, 0x39] = 0x29B1 := by decide

/-- The depths of R50's table. -/
theorem test_depths :
    (List.range 4).map (leftDepth (Run.mk 4 150 300 100 800 .knife .left 0 false)) = [300, 234, 167, 100] ∧
      (List.range 4).map (rightDepth (Run.mk 4 150 300 100 800 .knife .left 0 false)) = [240, 187, 134, 80] := by decide

/-- Upper 1692 and lower 1677 give 1684 (R93). -/
theorem test_probe_mean :
    (after (.probeSample 0 .upper (smp 1692))
        { base with zr.zones := base.zr.zones.set 0 { zone .shut with lower := fresh 1677 0 } }).zr.zones[0].temp = some 1684 := by
  decide

/-- Section 5.7: 1620 against a target of 1700 is a fast step, 300 to 340. -/
theorem test_probe_step :
    (after (.probeSample 0 .upper (smp 1620)) { base with zr.zones := base.zr.zones.set 0 (zone .heating) }).zr.zones[0].upper.valve = 340 := by
  decide

/-- R111: an arrival at the reading of the one before credits nothing, also at the dose limit. -/
theorem test_credit_of_nothing :
    creditCell 2500 0 { cell 3 0 1 16777215 with residue := 7 } = { cell 3 0 1 16777215 with residue := 7 } ∧
      creditCell 2500 1000 (cell 3 0 1 16777215) = cell 3 0 1 16777215 := by
  decide

/-- R116: a cell below Dmin makes its piece UNDER and raises DOSE_UNDER. -/
theorem test_retired_under :
    flagHeld .doseUnder (doseRetire (cell 128 9000 1 5)
      { working .running with da.classes := base.da.classes.set 0 { tbase := 0, dmin := 6, dmax := 9, margin := 0, splice := 0 } }) = true := by
  decide

/-- R73: the belt record is seeded, its next boundary 1000 on. -/
theorem test_encoder_seeds :
    (after (.encoderSample .belt (smp 250)) base).pt.nextBoundary = 1250 ∧ (after (.encoderSample .belt (smp 250)) base).pt.belt.state = .tracking := by
  decide

/-- R75: an advance of 8001 units is a jump, one of 8000 is not. -/
theorem test_encoder_jump :
    (after (.encoderSample .infeed (smp 10001)) (working .running)).lc.line = .fault ∧
      (after (.encoderSample .infeed (smp 9999)) { working .running with fs.state := .idle }).lc.line = .running := by
  decide

/-- R147: an event that passes S and the end of its piece lays the seam, and its record stands in that piece. -/
theorem test_seam_laid :
    (infeedEvent 5100
        { working .running with
          pt.infeed := tracking 5100
          sc.seam := some { seam := 4900, attached := some 1, reached := false }
          pq.pieces := [{ piece 1 9000 .forming with seam := some { position := 4900, offset := 3900 } }, piece 2 13000 .admitted] }).pq.pieces.map
      (fun p => (p.id, p.seam.map SeamRecord.offset)) = [(1, some 3900), (2, none)] := by
  decide

/-- R76: a record is stale 200 ms after its last arrival, not before. -/
theorem test_encoder_stale :
    (after (.encoderStale .belt 600) (working .running)).lc.cause = some .encoderStale ∧
      (after (.encoderStale .belt 599) (working .running)).lc.line = .running := by
  decide

/-- R92: a half expires 1000 ms after its last arrival; its zone, the other half FRESH, goes on with that half. -/
theorem test_half_expiry :
    (after (.halfExpiry 0 .upper 1400) (working .running)).zr.zones[0].temp = some 1680 ∧
      (after (.halfExpiry 0 .upper 1399) (working .running)).zr.zones[0].temp = some 1690 := by
  decide

/-- R130: the ACTIVE roll that reports EMPTY in RUNNING faults the line. -/
theorem test_unwind_empty :
    (after (.unwindStatusSample .a (smp 0)) (working .running)).lc.cause = some .unwindEmpty := by decide

/-- R129: a diameter above 2000 is taken as 2000, one below 0 as 0. -/
theorem test_unwind_diameter :
    (after (.unwindDiameterSample .b (smp 2001)) base).sc.unwindB.diameter = some 2000 ∧
      (after (.unwindDiameterSample .b (smp (-1))) base).sc.unwindB.diameter = some 0 := by
  decide

/-- R140: a DONE in FIRING exchanges the unwinds. -/
theorem test_splice_done :
    (after (.splicerStatusSample (smp 2)) { working .running with sc.state := .firing, sc.firing := some 1 }).sc.unwindB.state = .active := by
  decide

/-- R141: 2000 ms after the firing time, not before. -/
theorem test_splice_timeout :
    (after (.spliceTimeout 2001) { working .running with sc.state := .firing, sc.firing := some 1 }).lc.line = .fault ∧
      (after (.spliceTimeout 2000) { working .running with sc.state := .firing, sc.firing := some 1 }).lc.line = .running := by
  decide

/-- R155: the hard-full diameter marks the cut forced. -/
theorem test_take_up_diameter :
    (after (.takeUpDiameterSample (smp 962)) { working .running with lc.record.fullDiameter := 900, lc.record.hardFull := 960 }).tc.forced = true := by
  decide

/-- R159: CUT DONE in CUTTING starts the index of the new roll. -/
theorem test_take_up_status :
    (after (.takeUpStatusSample (smp 2)) { working .running with tc.winder := .cutting, tc.closing := some { roll := 4, ids := [], unlisted := 0 } }).act.entries.map ActEntry.command =
      [.index 5] := by
  decide

/-- R161: 5000 ms after the state time. -/
theorem test_cut_timeout :
    (after (.cutTimeout 5003) { working .running with tc.winder := .cutting, tc.stateTime := some 3 }).lc.cause = some .cutTimeout := by
  decide

/-- Section 11.7: an unknown REQ code is answered with REASON UNKNOWN (R196). -/
theorem test_unknown_request :
    (after (.requestUnknown 20 (rq [])) base).report = [.response 40 20 1 .refused .unknown 0 []] := by decide

/-- R199: a WRITE of a count the frame does not fill stays open. -/
theorem test_write_opens :
    (after (.write (rq [1, 0x01, 0xF4, 8])) base).mu.openWrite.map OpenWrite.pointer = some 500 := by decide

/-- R194: the unused bits of a GRADE entry read back as 0 (its layout is that of section 10.10). -/
theorem test_unused_bits :
    cleanEntry ([0xBF, 0xFF, 0xFF, 0xFF, 0xFF] ++ List.replicate 11 0xFF) = [0xB0, 0x0F, 0xFF, 0x7F, 0x8F] ++ List.replicate 11 0 := by
  decide

/-- R198, R201: a CONTINUE with no open write of its source is refused SEQUENCE. -/
theorem test_continue_refused :
    (after (.continueWrite (rq [0, 0])) base).report = [.response 40 2 1 .refused .sequence 0 []] := by decide

/-- R202: CLOSE answers PARTIAL with the remaining count, the pointer and stored. -/
theorem test_close :
    (after (.closeWrite (rq []))
        { base with
          mu.openWrite := some
            { source := 40, table := .pattern, tag := 9, requested := 8, pointer := 506, stored := 6, lastFrame := 0 } }).report =
      [.response 40 3 1 .partialClose .none 2 [0x01, 0xFA, 6]] := by
  decide

/-- R198: the write closes 200 ms after its last frame. -/
theorem test_write_timeout :
    (after (.writeTimeout 240)
        { base with
          mu.openWrite := some
            { source := 40, table := .pattern, tag := 9, requested := 8, pointer := 506, stored := 6, lastFrame := 40 } }).report =
      [.response 40 1 9 .partialClose .sequence 2 [0x01, 0xFA, 6]] := by
  decide

/-- R203: a table code that is none is refused RANGE. -/
theorem test_read_range : (after (.read (rq [11, 0, 0, 0, 1])) base).report = [.response 40 4 1 .refused .range 0 []] := by decide

/-- R205: page 3 is refused RANGE. -/
theorem test_status_range : (after (.status (rq [3])) base).report = [.response 40 5 1 .refused .range 0 []] := by decide

/-- R168: START with no valid line record is refused with detail 2. -/
theorem test_start_refused : (after (.start (rq [])) base).report = [.response 40 6 1 .refused .state 0 [2, 0, 0]] := by decide

/-- R170: STOP takes RUNNING to STOPPING. -/
theorem test_stop : (after (.stop (rq [])) (working .running)).lc.line = .stopping := by decide

/-- R66, R69: RESTART ends piece 1 SHORT and holds the line. -/
theorem test_restart :
    (after (.restart (rq [])) (working .running)).lc.line = .hold ∧
      (after (.restart (rq [])) (working .running)).pq.pieces.map (fun p => p.flags.short) = [true] := by
  decide

/-- R70: RELEASE runs a held line. -/
theorem test_release : (after (.release (rq [])) (working .hold)).fs.state = .forming := by decide

/-- R35: ADMIT takes the next piece id. -/
theorem test_admit : (after (.admitPiece (rq [])) (working .running)).pq.pieces.map Piece.id = [1, 2, 3] := by decide

/-- R29: a slot that is not LOADED is refused STATE. -/
theorem test_enlist : (after (.enlist (rq [3])) base).report = [.response 40 11 1 .refused .state 0 []] := by decide

/-- R30: the ACTIVE head cannot be withdrawn. -/
theorem test_withdraw : (after (.withdraw (rq [1])) (working .running)).pq.runList = [1] := by decide

/-- R31: a slot number above 7 is refused RANGE. -/
theorem test_clear_slot : (after (.clearSlot (rq [8])) base).report = [.response 40 13 1 .refused .range 0 []] := by decide

/-- R174: CLEAR waits for the belt to come to rest. -/
theorem test_clear_line : (after (.clearLine (rq [0xFF])) (working .fault)).lc.clearPending = true := by decide

/-- R97: STANDBY is refused in RUNNING. -/
theorem test_standby : (after (.standby (rq [0])) (working .running)).zr.zones[0].state = .ready := by decide

/-- R96: WAKE takes a STANDBY zone to WAKING. -/
theorem test_wake :
    (after (.wake (rq [1])) { base with zr.zones := base.zr.zones.set 0 (zone .standby) }).zr.zones[0].state = .waking := by decide

/-- R7: PURGE ALL of an empty lookaside counts 0. -/
theorem test_purge : (after (.purge (rq [0xFF])) base).report = [.response 40 16 1 .done .none 0 []] := by decide

/-- R128: 1000 is stored, 1001 is refused. -/
theorem test_speed :
    (after (.speed (rq [0x03, 0xE8])) base).lc.record.setpoint = 1000 ∧
      (after (.speed (rq [0x03, 0xE9])) base).report = [.response 40 17 1 .refused .range 0 []] := by
  decide

/-- R207: bits 18 to 23 are ignored, and COUNT is the number of flags changed. -/
theorem test_acknowledge :
    (after (.acknowledge (rq [0xFF, 0, 5, 0xFC, 0, 7])) { base with mu.flags := 3 }).report =
      [.response 40 18 1 .done .none 2 [0, 0, 5]] := by
  decide

/-- R208: LINE RESET empties the cell list and the queue. -/
theorem test_line_reset :
    (after (.lineReset (rq [])) (working .running)).cl = [] ∧ (after (.lineReset (rq [])) (working .running)).pq.pieces = [] := by
  decide

set_option maxRecDepth 20000 in
/-- R181: a full forward buffer drops the frame received. -/
theorem test_forward_full :
    (after (.frameReceived (frameFrom 9 8 2 [1]) 3) { base with rp.forward := List.replicate 8 [1] }).rp.forward.length = 8 := by decide

/-- R192: an idle port with nothing to send sends nothing. -/
theorem test_port_idle : (after (.portFree 3) base).rp.sending = none := by decide

/-- R193: the straps are read at the release of the pin. -/
theorem test_reset_release : (after (.resetRelease 9 true) base).rp.address = 9 ∧ (after .resetAssert base).rp.inReset = true := by decide

/-- R209: requests are taken once the clear is over. -/
theorem test_clear_done :
    (after (.patternClearDone 8) State.reset).px.clearing = false ∧
      (after (.stop (rq [])) State.reset).report = [.response 40 7 1 .busy .none 0 []] := by
  decide

/-! ### Witnesses: what each statement supposes is met -/

/-- An open write of node 40. -/
def writing (table : Table) (pointer requested done : Nat) : State :=
  { base with
    mu.openWrite := some
      { source := 40, table := table, tag := 9, requested := requested, pointer := pointer, stored := done, lastFrame := 300 } }

/-- `StepTakesFrontCommand`: an empty queue. -/
theorem test_hyp_idle : State.reset.pending = [] := by decide

/-- `ResetSilencesAndTheClearEnds`. -/
theorem test_hyp_reset :
    (after .resetAssert base).rp.inReset = true ∧ Instr.portFree 0 ≠ .resetAssert ∧ State.reset.rp.inReset = false ∧
      State.reset.px.clearing = true ∧ base.rp.inReset = false ∧ base.px.clearing = false := by
  decide

set_option maxRecDepth 20000 in
/-- `ReceivedFramesAreDisposedOf`: a bad burst, and good frames of each disposal. -/
theorem test_hyp_received :
    byteAt [] 0 ≠ 0xA6 ∧
      (goodFrame (frameFrom 9 8 2 [1]) = true ∧ { base with rp.address := 0 }.rp.address = 0) ∧
      (goodFrame (frameFrom 1 8 2 [1]) = true ∧ (frameOf (frameFrom 1 8 2 [1])).src = ownAddress base) ∧
      (goodFrame (frameFrom 40 1 3 [6]) = true ∧ (frameOf (frameFrom 40 1 3 [6])).src ≠ ownAddress base ∧
        (frameOf (frameFrom 40 1 3 [6])).kind = 3 ∧ (frameOf (frameFrom 40 1 3 [6])).dst = ownAddress base ∧
        (frameOf (frameFrom 40 1 3 [6])).payload.length < 2) ∧
      (goodFrame (frameFrom 40 2 3 [6, 1]) = true ∧ (frameOf (frameFrom 40 2 3 [6, 1])).dst ≠ ownAddress base) ∧
      (frameOf (frameFrom 9 1 1 [0, 0, 0, 0, 0, 0])).kind = 1 ∧ roleMet (frameOf (frameFrom 9 1 1 [0, 0, 0, 0, 0, 0])) base = none ∧
      base.rp.address ≠ 0 := by
  decide

set_option maxRecDepth 20000 in
/-- `RequestFramesAreTheirCommands`: a START frame. -/
theorem test_hyp_request_frame :
    base.rp.inReset = false ∧ base.rp.address ≠ 0 ∧ goodFrame (frameFrom 40 1 3 [6, 1]) = true ∧
      (frameOf (frameFrom 40 1 3 [6, 1])).src ≠ ownAddress base ∧ (frameOf (frameFrom 40 1 3 [6, 1])).kind = 3 ∧
      (frameOf (frameFrom 40 1 3 [6, 1])).dst = ownAddress base ∧ 2 ≤ (frameOf (frameFrom 40 1 3 [6, 1])).payload.length ∧
      (Instr.start (requestOf (frameOf (frameFrom 40 1 3 [6, 1])) 3)).asRequest =
        some (byteAt (frameOf (frameFrom 40 1 3 [6, 1])).payload 0, requestOf (frameOf (frameFrom 40 1 3 [6, 1])) 3) := by
  decide

set_option maxRecDepth 20000 in
/-- `SampleFramesAreTheirCommands`: a sample of the infeed encoder, bound to node 9; and a faulty sample. -/
theorem test_hyp_sample_frame :
    goodFrame (frameFrom 9 1 1 [2, 0, 0, 0, 7, 0]) = true ∧ (frameOf (frameFrom 9 1 1 [2, 0, 0, 0, 7, 0])).kind = 1 ∧
      (frameOf (frameFrom 9 1 1 [2, 0, 0, 0, 7, 0])).payload.length = 6 ∧
      roleMet (frameOf (frameFrom 9 1 1 [2, 0, 0, 0, 7, 0])) { base with nm := base.nm.set 0 (binding 9 2 1) } = some (.encoder .infeed) ∧
      (Instr.encoderSample .infeed (sampleOf (frameOf (frameFrom 9 1 1 [2, 0, 0, 0, 7, 0])) 3)).asSample =
        some (.encoder .infeed, sampleOf (frameOf (frameFrom 9 1 1 [2, 0, 0, 0, 7, 0])) 3) ∧
      online base = true ∧ { smp 3 with qual := 1 }.qual ≠ 0 := by
  decide

/-- `PortFreeSendsInOrder`: forwarded traffic; a passive part; an unbound frame before a bound one; a report; nothing. -/
theorem test_hyp_port :
    { base with rp.forward := [[1]] }.rp.forward = [1] :: [] ∧ { base with rp.address := 0 }.rp.address = 0 ∧
      (let s := placeAct .beltDrive (.speed 1) (placeAct .infeedDrive (.speed 2) { base with nm := base.nm.set 0 (binding 9 2 18) })
       s.act.entries = [⟨.infeedDrive, 1, .speed 2⟩] ++ ⟨.beltDrive, 2, .speed 1⟩ :: [] ∧
         bindingOf (.act .infeedDrive) s = none ∧ (bindingOf (.act .beltDrive) s).isSome = true) ∧
      base.rp.forward = [] ∧ base.act.entries = [] ∧ base.report = [] ∧
      (after (.stop (rq [])) base).report = [.response 40 7 1 .done .none 0 []] := by
  decide

/-- `OwnFramesReadBackWhole`: the longest payload. -/
theorem test_hyp_payload : (List.replicate 64 (0 : Byte)).length ≤ 64 := by decide

/-- `TableEntriesReadBackWhole`. -/
theorem test_hyp_tables :
    ClassRecord.legal { tbase := 2500, dmin := 9, dmax := 16777215, margin := 500, splice := 1000 } = true ∧
      stored.inRange = true ∧ record.legal 10 = true ∧ OrderSlot.reset.origin < 4096 ∧
      ([0xA0, 0xC0, 0xE0, 0x80].map fun b => entryKind (b :: List.replicate 15 (0xFF : Byte))) =
        [some .grade, some .panel, some .run, none] ∧
      panelUniform (0xC0 :: List.replicate 15 0xFF) = true ∧ panelUniform (0xC0 :: List.replicate 15 0) = false ∧
      (0xA0 :: List.replicate 15 (0xFF : Byte)).length = 16 := by
  decide

/-- `BusyAndMalformedRequestsChangeNothing`. -/
theorem test_hyp_busy :
    online State.reset = true ∧ answerable (rq []) = true ∧ State.reset.px.clearing = true ∧ served (rq []) base ∧
      ¬(1 ≤ (20 : Byte).toNat ∧ (20 : Byte).toNat ≤ 19) ∧ (rq [1, 2, 3]).args.length < 4 ∧ (rq [1]).args ≠ [] ∧
      (Instr.stop (rq [1]), 7) ∈
        [(Instr.start (rq [1]), 6), (.stop (rq [1]), 7), (.restart (rq [1]), 8), (.release (rq [1]), 9), (.admitPiece (rq [1]), 10), (.lineReset (rq [1]), 19)] := by
  decide

/-- `OwnWriteIsBrokenFirst`. -/
theorem test_hyp_own_write :
    reachesMU (rq []) (writing .pattern 5 3 1) ∧ (Instr.stop (rq [])).asRequest = some (7, rq []) ∧
      (writing .pattern 5 3 1).mu.openWrite.map OpenWrite.source = some (rq []).src := by
  decide

/-- `FlagsAndReportsAreQueuedOnce`: a queue with room and a full one, flags held, clear, enabled and not. -/
theorem test_hyp_flags :
    base.report.length < 16 ∧ (List.replicate 16 (Report.event .reverse 0)).length = 16 ∧
      { base with mu.flags := 0x8000 }.mu.flags.getLsbD 15 = true ∧ base.mu.flags.getLsbD 15 = false ∧
      base.lc.record.enables.getLsbD 15 = false ∧ { base with lc.record.enables := 0x8000 }.lc.record.enables.getLsbD 15 = true := by
  decide

/-- `WriteStoresOpensOrIsRefused`: the last entry; another source's open write; no entries; each refusal. -/
theorem test_hyp_write :
    (served (rq ([1, 0x0F, 0xFF, 1] ++ List.replicate 16 3)) base ∧
        field ([1, 0x0F, 0xFF, 1] ++ List.replicate 16 3) 1 2 < 4096 ∧ ([1, 0x0F, 0xFF, 1] ++ List.replicate 16 (3 : Byte)).length = 20) ∧
      served { rq [1, 0, 0, 1] with src := 41 } (writing .pattern 5 3 1) ∧
      (Table.ofCode (field [1, 0x0F, 0xFF, 1] 0 1) = some .pattern ∧ field [1, 0x0F, 0xFF, 1] 1 2 + 1 ≤ Table.pattern.records) ∧
      ¬(1 ≤ field [7, 0, 0, 1] 0 1 ∧ field [7, 0, 0, 1] 0 1 ≤ 6) ∧ field [1, 0, 0, 0] 3 1 = 0 ∧
      Table.pattern.records < field [1, 0x0F, 0xFF, 2] 1 2 + field [1, 0x0F, 0xFF, 2] 3 1 := by
  decide

/-- `ContinueIsJudgedInOrder`: no write; too short; another index; the write pointer, at the last entry and before it. -/
theorem test_hyp_continue :
    reachesMU (rq [0, 5]) (writing .pattern 5 3 1) ∧ ownsWrite 40 base = false ∧ (rq [0]).args.length < 2 ∧
      field [0, 6] 0 2 ≠ 5 ∧ field ([0, 5] ++ List.replicate 16 1) 0 2 = 5 ∧ ([0, 5] ++ List.replicate 16 (1 : Byte)).length = 18 ∧
      (1 < 3 ∧ 1 + 1 ≠ 3) ∧ (2 < 3 ∧ 2 + 1 = 3) := by
  decide

/-- The part with class 0 written, as `ContinueIsJudgedInOrder` follows a frame. -/
def classed : Nat → State
  | 0 => base
  | _ => recompute { base with da.classes := base.da.classes.set 0 (ClassRecord.ofBytes (ClassRecord.bytes ⟨1, 2, 3, 4, 5⟩)) }

/-- `ContinueIsJudgedInOrder`, the entries of a frame: one stored and one refused, the last one requested, one byte left,
and a whole entry left after the third. -/
theorem test_hyp_frame :
    takeEntry .classes 0 (ClassRecord.bytes ⟨1, 2, 3, 4, 5⟩) (classed 0) = .stored (classed 1) ∧
      takeEntry .classes 1 ((ClassRecord.bytes ⟨2501, 2, 3, 4, 5⟩).take 12) (classed 1) = .refused .range ∧
      (ClassRecord.bytes ⟨1, 2, 3, 4, 5⟩).length = Table.classes.size ∧ ([0] : List Byte) ≠ [] ∧
      ([0] : List Byte).length < Table.classes.size ∧ Table.classes.size ≤ (ClassRecord.bytes ⟨2501, 2, 3, 4, 5⟩).length ∧
      (0 + 1 = 1) ∧ (0 + 1 < 2) ∧ (0 + 3 < 4) :=
  ⟨rfl, rfl, by decide, by decide, by decide, by decide, by decide, by decide, by decide⟩

/-- `CloseEndsOnlyItsOwnWrite`: its own write, and another's. -/
theorem test_hyp_close :
    reachesMU (rq []) (writing .pattern 5 3 1) ∧ (rq []).args = [] ∧ ownsWrite (rq []).src (writing .pattern 5 3 1) = true ∧
      reachesMU { rq [] with src := 41 } (writing .pattern 5 3 1) ∧ ownsWrite 41 (writing .pattern 5 3 1) = false := by
  decide

/-- `WriteExpiresAfter200ms`: 200 ms, and 199. -/
theorem test_hyp_write_expiry :
    (writing .pattern 5 3 1).rp.inReset = false ∧ 200 ≤ ((500 : Clock) - 300).toNat ∧ ((499 : Clock) - 300).toNat < 200 := by decide

/-- The bytes of a class. -/
def classBytes (tbase : Nat) : List Byte :=
  ClassRecord.bytes { tbase := tbase, dmin := 9, dmax := 16777215, margin := 500, splice := 1000 }

/-- `ClassEntryIsStoredWholeOrRefused`: at the limits, and just beyond. -/
theorem test_hyp_class :
    (let k := ClassRecord.ofBytes (classBytes 2500)
     k.tbase ≤ 2500 ∧ k.margin ≤ 500 ∧ k.splice ≤ 1000 ∧ k.dmin ≤ k.dmax ∧ k.dmax ≤ 16777215) ∧
      ¬(ClassRecord.ofBytes (classBytes 2501)).tbase ≤ 2500 := by
  decide

/-- Zone 1 in a state, under manual control. -/
def zoned (st : ZoneState) (manual : Bool) : State :=
  { base with zr.zones := base.zr.zones.set 0 { zone st with stored := { stored with manual := manual } } }

/-- Zone 2 enabled, SHUT and disabled, beside zone 1, on a stopped line. -/
def twoZones (length : Nat) (st : ZoneState) (half : Freshness) : State :=
  { base with
    zr.zones := (base.zr.zones.set 0 { zone .ready with stored := { stored with lock := true } }).set 1
      { zone st with
        stored := { stored with start := 20, length := length }
        upper := { fresh 1700 300 with fresh := half }, lower := { fresh 1680 280 with fresh := half } } }

/-- A zone entry of 10 cells from a start cell. -/
def zoneEntry (start length setpoint : Nat) : ZoneStored :=
  { stored with start := start, length := length, setpoint := setpoint }

/-- `ClassEntryIsStoredWholeOrRefused`, a ZONE entry: out of range at valve max 1001; moved on a running line; meeting the
zone below and one cell short of it; at K and one beyond; disabling, enabling with halves OUT and FRESH, retargeting;
manual; a lock that engages. -/
theorem test_hyp_zone_entry :
    ZoneStored.ofBytes (zoneEntry 10 10 1700).bytes = zoneEntry 10 10 1700 ∧
      ¬(ZoneStored.ofBytes { stored with valveMax := 1001 }.bytes).valveMax ≤ 1000 ∧
      ((zoneEntry 10 10 1700).start ≠ (twoZones 10 .ready .fresh).zr.zones[(1 : Fin 8)].stored.start ∧ (working .running).lc.line ≠ .stopped) ∧
      zoneFits 1 (zoneEntry 10 10 1700) (twoZones 10 .ready .fresh) = true ∧
      zoneFits 1 (zoneEntry 9 10 1700) (twoZones 10 .ready .fresh) = false ∧
      zoneFits 1 (zoneEntry 118 10 1700) (twoZones 10 .ready .fresh) = true ∧
      zoneFits 1 (zoneEntry 119 10 1700) (twoZones 10 .ready .fresh) = false ∧
      ((twoZones 10 .ready .fresh).lc.line = .stopped ∧ (twoZones 10 .ready .fresh).zr.zones[(1 : Fin 8)].stored.length ≠ 0 ∧
        (zoneEntry 20 0 1700).length = 0) ∧
      ((twoZones 0 .shut .out).zr.zones[(1 : Fin 8)].stored.length = 0 ∧ (twoZones 0 .shut .out).zr.zones[(1 : Fin 8)].state = .shut ∧
        (twoZones 0 .shut .out).zr.zones[(1 : Fin 8)].upper.fresh = .out ∧ (twoZones 0 .shut .fresh).zr.zones[(1 : Fin 8)].upper.fresh = .fresh) ∧
      ((zoneEntry 20 10 1650).setpoint ≠ stored.setpoint ∧ { stored with standbyPoint := 1201 }.standbyPoint ≠ stored.standbyPoint ∧
        (twoZones 10 .standby .fresh).zr.zones[(1 : Fin 8)].state = .standby) ∧
      ({ stored with manual := true }.manual = true ∧ stored.manual = false ∧ (twoZones 10 .ready .fresh).zr.zones[(1 : Fin 8)].state ≠ .shut) ∧
      (zoned .ready false).zr.zones[oddZone (pairOf 0)].stored.lock = false ∧
      (lockHolds 0 (twoZones 10 .ready .fresh) = true ∧ (twoZones 10 .ready .fresh).zr.locks[(0 : Fin 4)] = false) := by
  decide

/-- The bytes of an order entry. -/
def orderBytes (requested done flat : Nat) : List Byte :=
  OrderSlot.bytes { OrderSlot.reset with dtype := .flat, requested := requested, done := done, flatLength := flat }

/-- `OrderEntryLoadsItsSlot`: a slot in the run list; nothing requested; out of range; at the limits. -/
theorem test_hyp_order :
    (1 : Fin 8) ∈ (working .running).pq.runList ∧ (2 : Fin 8) ∉ (working .running).pq.runList ∧
      (OrderSlot.ofBytes (orderBytes 0 0 0)).requested = 0 ∧ 9999 < (OrderSlot.ofBytes (orderBytes 10000 0 3000)).requested ∧
      (OrderSlot.ofBytes (orderBytes 9999 9998 3000)).requested ≤ 9999 ∧
      (OrderSlot.ofBytes (orderBytes 9999 9998 3000)).done < (OrderSlot.ofBytes (orderBytes 9999 9998 3000)).requested ∧
      (OrderSlot.ofBytes (orderBytes 9999 9998 3000)).flatLength = 3000 ∧
      (OrderSlot.ofBytes (orderBytes 5 5 2999)).flatLength = 2999 := by
  decide

/-- `NodeEntryIsJudgedAgainstTheMap`: running; invalid; no role; a clash; none. -/
theorem test_hyp_node :
    (working .running).lc.line ≠ .stopped ∧ base.lc.line = .stopped ∧ (NodeEntry.ofBytes [0, 0, 0, 0]).valid = false ∧
      ((NodeEntry.ofBytes [0x89, 0, 99, 0]).valid = true ∧ (NodeEntry.ofBytes [0x89, 0, 99, 0]).binds = none) ∧
      ((NodeEntry.ofBytes [0x89, 2, 2, 0]).valid = true ∧ (base.nm.set 0 (binding 9 2 1))[(0 : Fin 64)].valid = true ∧
        (base.nm.set 0 (binding 9 2 1))[(0 : Fin 64)].node = (NodeEntry.ofBytes [0x89, 2, 2, 0]).node) ∧
      (NodeEntry.ofBytes [0x89, 3, 2, 0]).node ≠ 0 ∧ (NodeEntry.ofBytes [0x89, 3, 2, 0]).node ≠ base.rp.address ∧
      (NodeEntry.ofBytes [0x89, 3, 2, 0]).binds ≠ none := by
  decide

set_option maxRecDepth 8000 in
/-- `LineEntryReplacesTheRecord`: the legal values of section 9.5 met by an entry, field by field, over zone 1 enabled on ten
cells; one with a filler class of 16, and one whose K of 9 lies below the last zone end. -/
theorem test_hyp_line_legal :
    (let bs := ({ record with knife := 10 }.bytes true).take 35
     let r := (LineRecord.ofBytes bs).1
     let s := working .stopped
     s.lc.line = .stopped ∧ 20 ≤ r.crawl ∧ r.crawl ≤ 200 ∧ r.crawl ≤ r.beltMax ∧ r.beltMax ≤ 1000 ∧ r.beltMax ≤ r.infeedMax ∧
       r.infeedMax ≤ 1500 ∧ r.setpoint ≤ 1000 ∧ r.spliceDistance ≤ 200000 ∧ r.reactionMargin ≤ 50000 ∧ r.seamMargin ≤ 5000 ∧
       r.spliceHorizon ≤ 400000 ∧ r.spliceDiameter ≤ 2000 ∧ r.forcedDiameter ≤ r.spliceDiameter ∧ r.fullDiameter ≤ 2000 ∧
       r.hardFull ≤ 2000 ∧ (r.fullDiameter ≠ 0 → r.hardFull ≠ 0 → r.fullDiameter ≤ r.hardFull) ∧ 1 ≤ r.knife ∧ r.knife ≤ 128 ∧
       (∀ z : Fin 8, s.zr.zones[z].stored.length ≠ 0 →
         s.zr.zones[z].stored.start + s.zr.zones[z].stored.length ≤ r.knife) ∧
       3000 ≤ r.fillerLength ∧ r.fillerLength ≤ 20000 ∧ (byteAt bs 29).toNat ≤ 15 ∧ 1 ≤ r.depth ∧ r.depth ≤ 4) ∧
      ¬(byteAt ((record.bytes true).set 29 16) 29).toNat ≤ 15 ∧ ¬(working .stopped).zr.zones[0].stored.length ≤ 9 := by
  decide

/-- `LineEntryReplacesTheRecord`: a legal entry, and one with crawl above belt max. -/
theorem test_hyp_line :
    base.lc.line = .stopped ∧ (LineRecord.ofBytes (record.bytes true)).1.legal (lastZoneEnd base) = true ∧
      (LineRecord.ofBytes (record.bytes true)).2 ≤ 15 ∧
      (LineRecord.ofBytes ({ record with crawl := 401 }.bytes true)).1.legal (lastZoneEnd base) = false := by
  decide

/-- A line at rest with a take-up diameter of 900, the splicer in a state; a target in WINDOW is forced. -/
def resting (st : SplicerState) : State :=
  { working .stopped with
    sc.state := st, tc.diameter := some 900
    sc.target := if st = .window then some { seam := 3000, fire := 2000, forced := true } else none }

/-- WINDOW with a target beyond the coverage. -/
def farTarget (seam : Position) : State :=
  { working .stopped with sc.state := .window, sc.target := some { seam := seam, fire := 8000, forced := false } }

/-- `LineEntryReplacesTheRecord`, the hand-over: the entry is legal; each splicer state, with a standby and none, above the
splice diameter and at it; STEPPED. -/
theorem test_hyp_line_handed :
    (let r := { record with spliceDiameter := 800, fullDiameter := 400, hardFull := 900 }
     r.legal (lastZoneEnd (resting .idle)) = true ∧ (LineRecord.ofBytes (r.bytes true)).1 = r ∧ r.continuous = false ∧
       (∀ st ∈ [SplicerState.idle, .ready, .armed, .window, .firing],
         (recompute (admissionCheck { resting st with lc.record := r, lc.valid := true })).sc = (resting st).sc ∧
           standbyUnwind (resting st).sc = some .b ∧ activeUnwind (resting st).sc = some .a) ∧
       ((unwindOf .a (resting .idle).sc).diameter = some 800 ∧ 800 ≤ r.spliceDiameter ∧ ¬800 ≤ record.spliceDiameter)) ∧
      standbyUnwind { (resting .ready).sc with unwindB := UnwindRecord.reset } = none ∧ (resting .idle).lc.line = .stopped := by
  decide

/-- R177, R132, R136, R155: with a splice diameter of 800 the ACTIVE roll of 800 is low and a target is found; with a hard-full
diameter of 900 the cut is pending and forced. -/
theorem test_line_handed :
    (match takeEntry .line 0 ({ record with spliceDiameter := 800, reactionMargin := 500, hardFull := 900 }.bytes true) (resting .ready) with
      | .stored t => some (t.sc.state, t.tc.winder, t.tc.forced)
      | .refused _ => none) = some (.window, .cutPending, true) := by
  decide

/-- `LineEntryReplacesTheRecord`, the search and the seam: ARMED with a seam and with none; a target that stands and one that
does not; a seam in its own piece, in another, in none, and in a piece that holds one. -/
theorem test_hyp_line_search :
    (let f : SeamFlight := { seam := 3000, attached := some 1, reached := false }
     let at1 (f : SeamFlight) : State := { resting .armed with sc.seam := some f }
     ((at1 f).sc.state = .armed ∧ (at1 f).sc.seam.isSome = true ∧ (resting .armed).sc.seam = none) ∧
       (coverOf 3000 (coverage (at1 f))).map Cover.id = some 1 ∧ (findPiece 1 (at1 f)).map Piece.seam = some none ∧
       f.attached ≠ some 2 ∧ coverOf 9000 (coverage (at1 f)) = none ∧
       { piece 1 9000 .forming with seam := some { position := 1, offset := 1 } }.seam.isSome = true) ∧
      (resting .window).sc.target = some { seam := 3000, fire := 2000, forced := true } ∧
      (∀ c ∈ coverage (farTarget 9000), safeIn c 0 9000 = false) ∧ (farTarget 9000).sc.state = .window := by
  decide

/-- `ReadsReportWithoutChanging`: the last entry; a bad code; a range past the end; the pages. -/
theorem test_hyp_reads :
    served (rq [1, 0x0F, 0xFF, 0, 1]) base ∧ field [1, 0x0F, 0xFF, 0, 1] 1 2 < 4096 ∧ ¬field [11, 0, 0, 0, 1] 0 1 ≤ 10 ∧
      (Table.ofCode (field [3, 0, 16, 0, 1] 0 1) = some .classes ∧ Table.classes.records < field [3, 0, 16, 0, 1] 1 2 + field [3, 0, 16, 0, 1] 3 2) ∧
      field [2] 0 1 = 2 ∧ 2 < field [3] 0 1 ∧
      (field [9, 0, 1, 0, 1] 0 1 = 9 ∧ field [9, 0, 1, 0, 1] 1 2 ≠ 0 ∧ field [9, 0, 0, 0, 2] 3 2 ≠ 1) ∧
      (field [10, 0, 31, 0, 1] 1 2 + field [10, 0, 31, 0, 1] 3 2 = 32 ∧ 32 < field [10, 0, 31, 0, 2] 1 2 + field [10, 0, 31, 0, 2] 3 2) := by
  decide

/-- `ReadsReportWithoutChanging` and `TableEntriesReadBackWhole`, the records: an unlisted count and a lead two bytes hold, a
closing manifest and none, a last order and none, a fault record and none, an EMPTY slot. -/
theorem test_hyp_records :
    (working .running).tc.current.unlisted < 65536 ∧ 65535 < 65536 ∧ (working .running).tc.closing = none ∧
      { (working .running).tc with closing := some { roll := 4, ids := [], unlisted := 0 } }.closing.isSome = true ∧
      (working .running).tc.lastOrder = none ∧ { (working .running).tc with lastOrder := some (1, 9) }.lastOrder = some (1, 9) ∧
      OrderSlot.reset.fault = none ∧ OrderSlot.reset.state = .empty ∧
      { OrderSlot.reset with state := .faulted, fault := some { kind := .type, entry := 4095, level := .panel, cursor := 63 } }.fault.isSome = true := by
  decide

/-- R205: page 0 of a line in FAULT by CUT_TIMEOUT, forming piece 1 of two, with slot 1 at the head. -/
theorem test_status_line :
    statusLine (working .fault) =
      [4, 5, 0, 0, 1, 1, 0, 0, 0, 0, 0, 0, 1, 0, 1, 2, 1, 1, 1, 0, 3, 0, 0xFF, 0xFF, 0xFF, 0xFF, 0xFF, 0, 0] := by
  decide

/-- `ReadsReportWithoutChanging`, the records selected: 26 PATTERN entries fill a stream and 27 are cut; 3 cells and the
closing part; a range of the queue beyond its tail. -/
theorem test_hyp_selected :
    (served (rq [1, 0, 0, 0, 27]) base ∧ Table.ofCode (field [1, 0, 0, 0, 27] 0 1) = some .pattern ∧
        field [1, 0, 0, 0, 27] 1 2 + field [1, 0, 0, 0, 27] 3 2 ≤ Table.pattern.records) ∧
      (26 * 16 = 416 ∧ 416 < 27 * 16) ∧
      (field [8, 0, 0, 0, 3] 0 1 = 8 ∧ (working .running).cl.length ≤ field [8, 0, 0, 0, 3] 1 2 + field [8, 0, 0, 0, 3] 3 2) ∧
      (field [7, 0, 2, 0, 1] 0 1 = 7 ∧ ((working .running).pq.pieces.drop (field [7, 0, 2, 0, 1] 1 2)).length = 0) := by
  decide

/-- The entry that binds a role to node 9. -/
def entryOf (role : Role) (channel : Nat) : NodeEntry :=
  { valid := true, node := 9, channel := BitVec.ofNat 8 channel, role := BitVec.ofNat 8 role.codes.1
    zone := BitVec.ofNat 4 role.codes.2, half := if 16 ≤ role.codes.2 then .lower else .upper }

/-- A stopped line that START would run. -/
def startable : State :=
  { working .stopped with
    nm := Vector.ofFn fun i =>
      match (requiredRoles (working .stopped))[i.val]? with
      | some r => entryOf r i.val
      | none => NodeEntry.reset }

/-- `StartIsCheckedInOrder`: each check in turn. -/
theorem test_hyp_start_checks :
    served (rq []) (working .running) ∧ (working .running).lc.line ≠ .stopped ∧ base.lc.valid = false ∧
      ((working .stopped).lc.valid = true ∧ requiredRoles (working .stopped) = [] ++ .encoder .infeed :: (requiredRoles (working .stopped)).tail ∧
        bindingOf (.encoder .infeed) (working .stopped) = none) ∧
      (∀ r ∈ requiredRoles startable, (bindingOf r startable).isSome = true) ∧
      { startable with pt.infeed.state := .stale }.pt.infeed.state ≠ .tracking ∧
      { startable with pt.belt.state := .fault }.pt.belt.state ≠ .tracking ∧
      { startable with zr.zones := base.zr.zones.set 0 (zone .heating) }.zr.zones[0].state ≠ .ready := by
  decide

/-- A stopped line that START would run, FS IDLE and the queue full of FORMED pieces. -/
def crowded : State :=
  { startable with
    fs.state := .idle, fs.cursor := FoldCursor.none
    pq.pieces := (List.range 48).map fun i => piece (i + 1) 9000 .formed }

set_option maxRecDepth 8000 in
/-- `StartRunsTheLine`: every check passed, zone 1 enabled; FS FORMING; FS IDLE with a piece ADMITTED; and the queue full with
none. -/
theorem test_hyp_start :
    (served (rq []) startable ∧ startable.lc.line = .stopped ∧ startable.lc.valid = true ∧
        (∀ r ∈ requiredRoles startable, (bindingOf r startable).isSome = true) ∧
        startable.pt.infeed.state = .tracking ∧ startable.pt.belt.state = .tracking ∧
        (∀ z : Fin 8, startable.zr.zones[z].stored.length ≠ 0 →
          startable.zr.zones[z].state = .ready ∧ startable.zr.zones[z].stale = false) ∧
        startable.zr.zones[0].stored.length ≠ 0 ∧ startable.fs.state = .forming) ∧
      { startable with fs.state := .idle }.fs.state = .idle ∧ (∃ p ∈ startable.pq.pieces, p.state = .admitted) ∧
      (served (rq []) crowded ∧ crowded.fs.state = .idle ∧ (∀ p ∈ crowded.pq.pieces, p.state ≠ .admitted) ∧
        48 ≤ crowded.pq.pieces.length ∧ crowded.lc.line = .stopped ∧ crowded.nm = startable.nm ∧ crowded.zr = startable.zr) := by
  refine ⟨by decide, by decide, by decide, by decide, by decide, by decide, by decide, by decide, rfl, rfl⟩

set_option maxRecDepth 8000 in
/-- R169, R172: START with the queue full is answered DONE, belt command 0 and no piece, and the line is STOPPING. -/
theorem test_start_full :
    (after (.start (rq [])) crowded).lc.line = .stopping ∧
      (after (.start (rq [])) crowded).report.getLast? = some (.response 40 6 1 .done .none 0 [0, 0, 0, 0]) := by
  decide

/-- `StartRunsTheLine`, a piece needed: an ADMITTED one behind piece 1, its plan's first item; no piece with room; 48
pieces, none ADMITTED, the line running and not. -/
theorem test_hyp_need_piece :
    ((working .running).pq.pieces = [piece 1 9000 .forming] ++ piece 2 13000 .admitted :: [] ∧
        (piece 2 13000 .admitted).state = .admitted ∧ (∀ q ∈ [piece 1 9000 .forming], q.state ≠ .admitted) ∧
        planItems (piece 2 13000 .admitted).plan = flatItem .lead 0 0 4000 :: []) ∧
      ((∀ q ∈ base.pq.pieces, q.state ≠ .admitted) ∧ base.pq.pieces.length < 48) ∧
      (let s := { working .running with pq.pieces := List.replicate 48 (piece 1 9000 .formed) }
       (∀ q ∈ s.pq.pieces, q.state ≠ .admitted) ∧ 48 ≤ s.pq.pieces.length ∧ s.lc.line = .running) ∧
      (working .stopped).lc.line ≠ .running ∧ (working .stopped).lc.line ≠ .hold := by
  decide

/-- `StartRunsTheLine`, a filler piece: the filler length after reset, and one shorter than any it can have. -/
theorem test_hyp_filler : fillerInRange base ∧ ¬fillerInRange { base with lc.record.fillerLength := 2999 } := by decide

/-- `StopBringsTheLineToRest`. -/
theorem test_hyp_stop :
    served (rq []) (working .hold) ∧ (working .hold).fs.state = .held ∧ (working .running).lc.line = .running ∧
      (working .stopping).lc.line = .stopping ∧ (working .fault).lc.line = .fault := by
  decide

/-- `RestartEndsShortAndHolds`: piece 1 in hand. -/
theorem test_hyp_restart :
    served (rq []) (working .running) ∧ (working .running).lc.record.pauseOnRestart = true ∧
      (pieceInHand (working .running)).map Piece.id = some 1 ∧
      (∀ p ∈ pieceInHand (working .running), p.state ≠ .admitted ∧ ∀ q ∈ (working .running).pq.pieces, q.id = p.id → q = p) ∧
      (working .hold).lc.line = .hold ∧ (working .stopped).lc.line = .stopped := by
  decide

/-- `RestartEndsShortAndHolds`, the end and the removal: the newest cell of piece 1, and none; no piece SHORT with a cell that
names the ADMITTED one. -/
theorem test_hyp_restart_parts :
    ((working .running).cl = [] ++ cell 0 9900 1 10 :: (working .running).cl.tail ∧
        0 ≤ ((cell 0 9900 1 10).formed - (piece 1 9000 .forming).beltStart).toInt ∧ (cell 0 9900 1 10).piece = some 1) ∧
      (∀ c ∈ base.cl, c.piece ≠ some 1) ∧
      (let s := { working .running with cl := [cell 0 13000 2 0] }
       s.cl.any (fun c => (s.pq.pieces.filter fun p => decide (p.state = .admitted)).any fun p => decide (c.piece = some p.id)) = true) := by
  decide

/-- R66, R67: piece 1, ended in the middle of its lead, ends at the end of its newest cell, 10,900; the cell of the piece
removed names it; and slot 1 is back at that piece's cursor and counts. -/
theorem test_restart_short :
    (let s := { working .running with cl := [cell 0 9900 2 0] }
     let t := after (.restart (rq [])) s
     t.pq.pieces.map Piece.beltEnd = [10900] ∧ t.cl.map BeltCell.piece = [some 1] ∧ t.fs.cursor.item = .runOut ∧
       t.fs.cursor.boundary = 2900 ∧ t.pq.slots[1].state = .active) := by
  decide

/-- `ReleaseRunsAHeldLine`. -/
theorem test_hyp_release :
    served (rq []) (working .hold) ∧ (working .hold).fs.state = .held ∧ { working .hold with fs.state := .starved }.fs.state ≠ .held ∧
      (working .stopped).lc.line ≠ .hold ∧ (working .hold).lc.record.continuous = false ∧
      { working .hold with fs.state := .forming }.fs.state = .forming ∧ { working .hold with fs.state := .idle }.lc.line = .hold := by
  decide

set_option maxRecDepth 8000 in
/-- R33, R70: RELEASE, STOP out of HOLD and CLEAR admit a piece in CONTINUOUS mode, two waiting then. -/
theorem test_changes_admit :
    (let on (s : State) : State := { s with lc.record := { record with continuous := true, depth := 2 } }
     let waits (s : State) : Nat := (s.pq.pieces.filter fun p => decide (p.state = .admitted)).length
     waits (on (working .hold)) = 1 ∧ waits (after (.release (rq [])) (on (working .hold))) = 2 ∧
       waits (after (.stop (rq [])) (on (working .hold))) = 2 ∧ waits (after (.stop (rq [])) (on (working .running))) = 1 ∧
       waits (after (.clearLine (rq [0xFF])) (on { working .fault with pt.belt.state := .unseen })) = 2) := by
  decide

/-- `ClearLeavesFaultAtRest`. -/
theorem test_hyp_clear_line :
    served (rq [0xFF]) (working .fault) ∧ (working .running).lc.line ≠ .fault ∧ (working .fault).pt.belt.state ≠ .unseen ∧
      { working .fault with pt.belt.state := .unseen, pt.infeed.state := .fault }.pt.belt.state = .unseen := by
  decide

/-- `SpeedStoresTheSetpoint`: 1000 and 1001. -/
theorem test_hyp_speed :
    served (rq [0x03, 0xE8]) (working .running) ∧ field [0x03, 0xE8] 0 2 ≤ 1000 ∧ 1000 < field [0x03, 0xE9] 0 2 := by decide

/-- `AcknowledgeSetsTheMaskedFlags`. -/
theorem test_hyp_acknowledge : served (rq [0, 0, 5, 0, 0, 7]) base ∧ (rq [0, 0, 5, 0, 0, 7]).args.length = 6 := by decide

/-- `LineResetSetsBackAndKeeps`. -/
theorem test_hyp_line_reset :
    reachesMU (rq []) (working .running) ∧ (working .running).lc.line ≠ .fault ∧ (working .fault).lc.line = .fault := by decide

/-- `LineResetSetsBackAndKeeps`, the REPORT queue: an open write and none, with 15 frames waiting. -/
theorem test_hyp_line_reset_report :
    (let s := { writing .zones 3 4 1 with report := List.replicate 15 (.event .reverse 3) }
     reachesMU (rq []) s ∧ s.lc.line ≠ .fault ∧ s.mu.openWrite.isSome = true ∧ s.report.length < 16) ∧
      (working .running).mu.openWrite = none := by
  decide

/-- R208: the closing response of an open write stands behind the frame that waits and before the DONE. -/
theorem test_line_reset_report :
    (after (.lineReset (rq [])) { writing .zones 3 4 1 with report := [.event .reverse 3] }).report =
      [.event .reverse 3, .response 40 1 9 .partialClose .state 3 [0, 3, 1], .response 40 19 1 .done .none 0 []] := by
  decide

/-- Slots 2 and 3 LOADED and FAULTED. -/
def ordered (runList : List (Fin 8)) (head : SlotState) : State :=
  { base with
    pq.runList := runList
    pq.slots := ((base.pq.slots.set 1 { OrderSlot.reset with state := head }).set 2 { OrderSlot.reset with state := .loaded }).set 3
      { OrderSlot.reset with state := .faulted } }

/-- `EnlistAppendsALoadedSlot`: the last slot, one beyond, a member, a slot not LOADED, a list with and without a head. -/
theorem test_hyp_enlist :
    served (rq [2]) (ordered [1] .active) ∧ 8 ≤ field [8] 0 1 ∧ field [7] 0 1 = (7 : Fin 8).val ∧
      (1 : Fin 8) ∈ (ordered [1] .active).pq.runList ∧ (ordered [1] .active).pq.slots[(7 : Fin 8)].state ≠ .loaded ∧
      ((2 : Fin 8) ∉ (ordered [1] .active).pq.runList ∧ (ordered [1] .active).pq.slots[(2 : Fin 8)].state = .loaded ∧ (ordered [1] .active).pq.runList ≠ []) ∧
      (ordered [] .loaded).pq.runList = [] ∧ (ordered [] .loaded).lc.record.continuous = false := by
  decide

/-- `EnlistAppendsALoadedSlot`, the admission check: an ACTIVE head with one piece ADMITTED, below a depth of 2 and at a
depth of 1. -/
theorem test_hyp_admission :
    (let s : State := { working .running with lc.record := { record with continuous := true, depth := 2 } }
     s.lc.record.continuous = true ∧ s.lc.line = .running ∧ s.pq.runList.head? = some 1 ∧ s.pq.slots[(1 : Fin 8)].state = .active ∧
       s.pq.pieces.length < 48 ∧ (s.pq.pieces.filter fun p => decide (p.state = .admitted)).length < s.lc.record.depth) ∧
      ¬((working .running).pq.pieces.filter fun p => decide (p.state = .admitted)).length < record.depth ∧
      (ordered [1] .active).lc.record.continuous = false := by
  decide

/-- R33: a depth of 3 admits two pieces beside the one ADMITTED. -/
theorem test_admission_depth :
    (admissionCheck { working .running with lc.record := { record with continuous := true, depth := 3 } }).pq.pieces.map Piece.id =
      [1, 2, 3, 4] := by
  decide

/-- `WithdrawRemovesAllButTheActiveHead`: an ACTIVE head, a member behind it, a FAULTED head. -/
theorem test_hyp_withdraw :
    served (rq [1]) (ordered [1, 2] .active) ∧ (ordered [1, 2] .active).pq.runList.head? = some 1 ∧
      (ordered [1, 2] .active).pq.slots[(1 : Fin 8)].state = .active ∧ (3 : Fin 8) ∉ (ordered [1, 2] .active).pq.runList ∧
      (2 : Fin 8) ∈ (ordered [1, 2] .active).pq.runList ∧ (ordered [1, 2] .faulted).pq.slots[(1 : Fin 8)].state ≠ .active ∧
      (ordered [1, 2] .faulted).lc.record.continuous = false ∧ (ordered [1, 2] .faulted).pq.slots[(2 : Fin 8)].state = .loaded := by
  decide

/-- `ClearReleasesAFaultedSlot`: a FAULTED head, a FAULTED slot behind it, a slot not FAULTED. -/
theorem test_hyp_clear_slot :
    served (rq [3]) (ordered [1, 3] .faulted) ∧ field [3] 0 1 ≠ 255 ∧ 8 ≤ field [8] 0 1 ∧
      (ordered [1, 3] .faulted).pq.slots[(1 : Fin 8)].state = .faulted ∧ (ordered [1, 3] .faulted).pq.runList.head? = some 1 ∧
      (ordered [1, 3] .faulted).pq.runList.head? ≠ some 3 ∧ (ordered [1, 3] .faulted).pq.slots[(2 : Fin 8)].state ≠ .faulted := by
  decide

/-- `AdmitAppendsOnePieceOrIsRefused`: the last skirt, and one before it, of a FLAT order; each refusal. -/
theorem test_hyp_admit :
    served (rq []) (working .running) ∧ (working .running).lc.record.continuous = false ∧
      (working .running).pq.runList = 1 :: [] ∧ (working .running).pq.slots[(1 : Fin 8)].state = .active ∧
      (working .running).pq.slots[(1 : Fin 8)].dtype = .flat ∧ (working .running).pq.slots[(1 : Fin 8)].cursor = 0 ∧
      (working .running).pq.slots[(1 : Fin 8)].done + 1 ≠ (working .running).pq.slots[(1 : Fin 8)].requested ∧
      (OrderSlot.reset.done + 1 = { OrderSlot.reset with requested := 1 }.requested) ∧
      (working .running).sc.seam = none ∧ (working .running).sc.state = .ready ∧ (working .hold).lc.line = .hold ∧
      base.pq.runList = [] ∧ (ordered [1, 2] .faulted).pq.slots[(1 : Fin 8)].state ≠ .active ∧ (working .running).pq.pieces.length < 48 := by
  decide

/-- Pattern memory with a panel entry at index 0: 10 knife pleats of 150, depth 200 (section 1.1). -/
def patterned : List Host.Cell :=
  writeEntry [] 0 ([0xC0, 0x40] ++ beBytes 2 10 ++ beBytes 2 150 ++ beBytes 2 200 ++ beBytes 2 200 ++ beBytes 2 1000 ++ [1, 0, 0, 0])

/-- The part with a PANEL order at the head of the run list, and slot 2 LOADED behind it. -/
def paneled (requested : Nat) (mem : List Host.Cell) : State :=
  { working .running with
    px.mem := mem
    pq.runList := [1, 2]
    pq.slots := (base.pq.slots.set 1 { OrderSlot.reset with state := .active, dtype := .panel, requested := requested }).set 2
      { OrderSlot.reset with state := .loaded } }

set_option maxRecDepth 20000 in
/-- `AdmitAppendsOnePieceOrIsRefused`, a PANEL order: a walk that completes, for the last skirt and one before it, and one
that faults. -/
theorem test_hyp_admit_panel :
    served (rq []) (paneled 1 patterned) ∧ (paneled 1 patterned).pq.runList = 1 :: [2] ∧
      (paneled 1 patterned).pq.slots[(1 : Fin 8)].state = .active ∧ (paneled 1 patterned).pq.slots[(1 : Fin 8)].dtype ≠ .flat ∧
      ((walk (paneled 1 patterned).px 1 (paneled 1 patterned).pq.slots[(1 : Fin 8)]).2.toOption.map fun r => (r.1.adjusted, r.2)) =
        some (true, 1) ∧
      (paneled 1 patterned).pq.slots[(1 : Fin 8)].done + 1 = (paneled 1 patterned).pq.slots[(1 : Fin 8)].requested ∧
      (paneled 2 patterned).pq.slots[(1 : Fin 8)].done + 1 ≠ (paneled 2 patterned).pq.slots[(1 : Fin 8)].requested ∧
      (paneled 1 patterned).pq.slots[(2 : Fin 8)].state = .loaded ∧
      (walk (paneled 1 []).px 1 (paneled 1 []).pq.slots[(1 : Fin 8)]).2.toOption.isNone = true := by
  decide

set_option maxRecDepth 20000 in
/-- `WalkedPlansMeetTheirRanges`: a walk that completes. -/
theorem test_hyp_walk :
    ({ OrderSlot.reset with dtype := .panel }.dtype ≠ .flat) ∧
      ((walk { base.px with mem := patterned } 0 { OrderSlot.reset with dtype := .panel }).2.toOption.map fun r =>
          (r.1.belt, r.2)) = some (3000, 1) := by
  decide

/-- Pattern memory with a table of one grade at index 0, its style one panel at 1, the panel's one run at `origin`, a
run of `count` knife pleats at index 2. -/
def gathered (origin runs count : Nat) : List Host.Cell :=
  writeEntry
    (writeEntry (writeEntry [] 0 ([0xA0, 0x00, 0x01, 0x01, 0x83] ++ List.replicate 11 0)) 1
      ([0xC0, 0x00] ++ beBytes 2 origin ++ byte runs ++ List.replicate 11 0))
    2 ([0xE0] ++ beBytes 2 count ++ beBytes 2 150 ++ beBytes 2 200 ++ beBytes 2 200 ++ beBytes 2 1000 ++ [1, 0, 0, 0, 0])

/-- What a fetch answers: the fault, or the entry's first bytes. -/
def fetched (mem : List Host.Cell) (index : Nat) (kind : EntryKind) : Except WalkFault (List Byte) :=
  (fetch { base.px with mem := mem } index kind 0).2

/-- The order of a table of `length` grades from `origin`. -/
def graded (origin length gradeIndex : Nat) : OrderSlot :=
  { OrderSlot.reset with dtype := .grade, origin := origin, length := length, gradeIndex := gradeIndex }

/-- Where a walk of an order over a memory stops. -/
def stopOf (mem : List Host.Cell) (o : OrderSlot) : Option WalkStop :=
  match (walk { base.px with mem := mem } 0 o).2 with
  | .error e => some e
  | .ok _ => none

set_option maxRecDepth 20000 in
/-- R12 to R14, R16: the grade level: lengths 0 and 33, an index at the length, an index beyond 4095, an entry that is not
valid, and a grade index with no table. -/
theorem test_walk_grade :
    stopOf [] (graded 5 0 0) = some ⟨.range, 5, .grade⟩ ∧ stopOf [] (graded 5 33 0) = some ⟨.range, 5, .grade⟩ ∧
      stopOf [] (graded 5 1 1) = some ⟨.range, 6, .grade⟩ ∧ stopOf [] (graded 4095 32 1) = some ⟨.range, 4096, .grade⟩ ∧
      stopOf [] (graded 4095 32 0) = some ⟨.invalid, 4095, .grade⟩ ∧
      stopOf [] { graded 5 1 1 with dtype := .panel } = some ⟨.range, 5, .grade⟩ := by
  decide

set_option maxRecDepth 20000 in
/-- R13, R14, R16: the style and panel levels: a length of 65 and of 64, a cursor at the length, an index beyond 4095, a
panel entry of the wrong kind; a run count of 0 and of 9, a run of the wrong kind, a run beyond 4095, 401 pleats. -/
theorem test_walk_style :
    (let style (length cursor : Nat) : OrderSlot := { OrderSlot.reset with dtype := .style, origin := 4095, length := length, cursor := cursor }
     stopOf [] (style 65 0) = some ⟨.range, 4095, .style⟩ ∧ stopOf [] (style 64 0) = some ⟨.invalid, 4095, .style⟩ ∧
       stopOf [] (style 64 1) = some ⟨.range, 4096, .style⟩) ∧
      stopOf (gathered 2 1 4) { graded 0 1 0 with cursor := 1 } = some ⟨.range, 2, .style⟩ ∧
      stopOf (gathered 2 1 4) { OrderSlot.reset with dtype := .panel, origin := 2 } = some ⟨.type, 2, .style⟩ ∧
      stopOf (gathered 2 0 4) (graded 0 1 0) = some ⟨.range, 1, .panel⟩ ∧
      stopOf (gathered 2 9 4) (graded 0 1 0) = some ⟨.range, 1, .panel⟩ ∧
      stopOf (gathered 1 1 4) (graded 0 1 0) = some ⟨.type, 1, .panel⟩ ∧
      stopOf (gathered 2 2 4) (graded 0 1 0) = some ⟨.invalid, 3, .panel⟩ ∧
      stopOf (gathered 2 1 401) (graded 0 1 0) = some ⟨.range, 2, .panel⟩ ∧
      stopOf (gathered 2 1 0) (graded 0 1 0) = some ⟨.empty, 1, .plan⟩ ∧ stopOf (gathered 2 1 400) (graded 0 1 0) = some ⟨.limit, 1, .plan⟩ := by
  decide

set_option maxRecDepth 20000 in
/-- `WalkedPlansMeetTheirRanges`, the levels: the fetches that complete and that fault, a UNIFORM panel and one that is
gathered, a run of 400 pleats and of 401, and a kind that is none. -/
theorem test_hyp_levels :
    (fetched (gathered 2 1 4) 0 .grade).toOption.isSome = true ∧ (fetched [] 0 .grade).toOption.isNone = true ∧
      (fetched (gathered 2 1 4) 1 .panel).toOption.map (fun e => (panelUniform e, panelRunOrigin e, panelRunCount e)) =
        some (false, 2, 1) ∧
      (fetched patterned 0 .panel).toOption.map panelUniform = some true ∧
      (fetched (gathered 2 1 400) 2 .run).toOption.map (fun c => (storedRun c 1 false).count) = some 400 ∧
      400 < (storedRun (readEntry (gathered 2 1 401) 2) 1 false).count ∧
      (storedRun ([0xE0] ++ List.replicate 10 0 ++ [0] ++ List.replicate 4 0) 1 false).kind = none ∧
      (1 ≤ 32 ∧ 32 ≤ 32 ∧ ¬33 ≤ 32) ∧ (1 ≤ 8 ∧ 8 ≤ 8 ∧ 8 < 9) ∧ (2 + 0 ≤ 4095 ∧ 4095 < 4095 + 1) ∧
      stopOf (gathered 2 1 4) (graded 0 1 0) = none := by
  decide

/-- `PleatDepthsFollowTheTaper`: 1 pleat and 4, the last of them, at the caps. -/
theorem test_hyp_pleats :
    (450 ≤ min (3 * 150) 1200 ∧ 1000 ≤ 1000) ∧ (Run.mk 1 150 450 100 1000 .knife .left 0 false).count = 1 ∧
      2 ≤ (Run.mk 4 150 450 100 1000 .knife .left 0 false).count ∧ 3 < 4 ∧ 100 < 450 := by
  decide

/-- `PurgeInvalidatesAndCounts`: slot 7, all, and no slot. -/
theorem test_hyp_purge :
    served (rq [7]) base ∧ field [7] 0 1 < 8 ∧ field [0xFF] 0 1 = 255 ∧ (8 ≤ field [8] 0 1 ∧ field [8] 0 1 ≠ 255) := by decide

set_option maxRecDepth 20000 in
/-- `PurgeInvalidatesAndCounts`, a fetch: a hit, a miss that succeeds, and misses that fault INVALID and TYPE, the pointer
at its last place. -/
theorem test_hyp_fetch :
    (let px := install base.px 7 1 (0xC0 :: List.replicate 15 0)
     px.lookaside[(0 : Fin 32)].valid = true ∧ px.lookaside[(0 : Fin 32)].tag = 7 ∧
       ∀ j : Fin 32, px.lookaside[j].valid = true ∧ px.lookaside[j].tag = 7 → j = 0) ∧
      (∀ k : Fin 32, ¬(base.px.lookaside[k].valid = true ∧ base.px.lookaside[k].tag = 0)) ∧
      (bitAt (readEntry patterned 0) 0 7 = true ∧ entryKind (readEntry patterned 0) = some .panel ∧
        entryKind (readEntry patterned 0) ≠ some .run ∧ bitAt (readEntry patterned 1) 0 7 = false) ∧
      ({ base.px with pointer := 31 }.pointer.val + 1) % 32 = 0 := by
  decide

/-- `StandbyAndWakeMoveTheZones`: zone 1 named, ALL, the last zone disabled, zone 9, a manual SHUT zone. -/
theorem test_hyp_zones :
    served (rq [1]) (zoned .shut true) ∧ field [9] 0 1 > 8 ∧ field [8] 0 1 = (7 : Fin 8).val + 1 ∧
      base.zr.zones[(7 : Fin 8)].stored.length = 0 ∧ (zoned .shut true).zr.zones[(0 : Fin 8)].stored.length ≠ 0 ∧
      (zoned .shut true).zr.zones[(0 : Fin 8)].stored.manual = true ∧ (zoned .shut true).zr.zones[oddZone (pairOf 0)].stored.lock = false ∧
      field [0] 0 1 = 0 ∧ (working .running).lc.line = .running ∧ base.lc.line ≠ .hold := by
  decide

/-- `ProbeSamplesRegulateAndAccrue`: a disabled zone; an enabled one, its lock off, its target present; SHUT; manual. -/
theorem test_hyp_probe :
    sampled (smp 1700) (working .running) ∧ base.zr.zones[(0 : Fin 8)].stored.length = 0 ∧
      (zoned .ready false).zr.zones[(0 : Fin 8)].stored.length ≠ 0 ∧ (zoned .ready false).zr.zones[(0 : Fin 8)].target = some 1700 ∧
      (zoned .ready false).zr.zones[(0 : Fin 8)].stored.manual = false ∧ (0 : Fin 8).val % 2 = 0 ∧
      base.zr.locks[pairOf 1] = false ∧ (zoned .shut false).zr.zones[(0 : Fin 8)].state = .shut ∧
      (zoned .ready true).zr.zones[(0 : Fin 8)].stored.manual = true := by
  decide

/-- `ProbeSamplesRegulateAndAccrue`, a locked pair: engaged, with an error that steps and one that does not; the even zone;
not engaged, the even zone SHUT. -/
theorem test_hyp_lock :
    (let s := { twoZones 10 .ready .fresh with zr.locks := base.zr.locks.set 0 true }
     let odd := s.zr.zones[oddZone (pairOf 0)]
     let even := s.zr.zones[evenZone (pairOf 0)]
     (s.zr.locks[pairOf 0] = true ∧ odd.stored.lock = true ∧ odd.stored.length ≠ 0 ∧ even.stored.length ≠ 0 ∧ odd.state ≠ .shut ∧
         even.state ≠ .shut ∧ even.stored.manual = false ∧ odd.target = even.target) ∧
       ((odd.stored.band : Int) < 1700 - 1684 ∧ ¬(odd.stored.band : Int) < 1700 - 1685 ∧ ¬1700 - 1685 < -(odd.stored.band : Int)) ∧
       (0 : Fin 8).val % 2 = 0 ∧ (1 : Fin 8).val % 2 = 1 ∧ pairOf 1 = pairOf 0) ∧
      (twoZones 10 .shut .fresh).zr.zones[evenZone (pairOf 0)].state = .shut := by
  decide

/-- R104, R105: of a locked pair a sample of the odd zone's half sets the even zone's valve too, and one of the even zone's
half sets none. -/
theorem test_lock_copy :
    (let s := { twoZones 10 .ready .fresh with zr.locks := base.zr.locks.set 0 true }
     (after (.probeSample 0 .upper (smp 1684)) s).zr.zones[1].upper.valve = 310 ∧
       (after (.probeSample 1 .upper (smp 1684)) s).zr.zones[1].upper.valve = 300) := by
  decide

/-- `HalvesExpireAfterASecond`: 1000 ms and 999; the other half FRESH and not. -/
theorem test_hyp_half :
    (zone .ready).upper.fresh = .fresh ∧ 1000 ≤ ((1400 : Clock) - (zone .ready).upper.lastArrival).toNat ∧
      ¬1000 ≤ ((1399 : Clock) - (zone .ready).upper.lastArrival).toNat ∧ (zone .ready).lower.fresh = .fresh ∧
      { zone .ready with lower := HalfRecord.reset }.lower.fresh ≠ .fresh ∧ (zone .ready).stored.length ≠ 0 := by
  decide

/-- `HeatLimitFollowsTheGoverningPiece`: an empty population, and the forming piece. -/
theorem test_hyp_population : population base = [] ∧ population (working .running) ≠ [] := by decide

/-- `HeatLimitFollowsTheGoverningPiece`, the infeed command: the belt command stands and changes; a ratio of 3 to 2 gives
30 of the crawl speed, another command than the last. -/
theorem test_hyp_infeed_command :
    (recompute (working .running)).sg.belt = (working .running).sg.belt ∧
      (recompute { working .running with sg.belt := 20 }).sg.belt ≠ { working .running with sg.belt := 20 }.sg.belt ∧
      (setRatio (.pleat 300 200) (working .hold)).fs.lastInfeed = 30 ∧
      (recompute (working .hold)).fs.lastInfeed ≠ 30 ∧
      (setRatio .flat { working .stopped with fs.lastInfeed := 0 }).fs.lastInfeed = (recompute (working .stopped)).fs.lastInfeed := by
  decide

/-- `EncoderSamplesAreTakenByState`: 8001 units, one unit back, and each state. -/
theorem test_hyp_encoder :
    sampled (smp 10001) (working .running) ∧ base.pt.infeed.state = .unseen ∧
      8000 < ((smp 10001).value + (working .running).pt.infeed.offset - (working .running).pt.infeed.held).toInt ∧
      ((smp 1999).value + (working .running).pt.infeed.offset - (working .running).pt.infeed.held).toInt < 0 ∧
      8000 < ((smp 14501).value + (working .running).pt.belt.offset - (working .running).pt.belt.held).toInt ∧
      (working .running).pt.belt.state = .tracking ∧ ((working .running).lc.line ≠ .stopping ∧ (working .running).lc.clearPending = false) ∧
      (let s := { working .fault with lc.clearPending := true, pt.belt.state := .fault }
       s.pt.belt.state = .fault ∧ s.lc.line = .fault ∧ s.lc.clearPending = true ∧ ((smp 6500).value - s.pt.belt.raw).toInt ≤ 0) := by
  decide

/-- `EncoderSamplesAreTakenByState`, what the line hears: a belt in STOPPING whose reverse shows no advance, at each rest
count; a jump that shows one, and, under an offset, one that shows none; in FAULT with CLEAR waiting. -/
theorem test_hyp_heard :
    (((smp 6499).value + (working .stopping).pt.belt.offset - (working .stopping).pt.belt.held).toInt < 0 ∧
        ¬0 < ((smp 6499).value - (working .stopping).pt.belt.raw).toInt ∧ (working .stopping).lc.restCount = 0 ∧
        { working .stopping with lc.restCount := 1 }.lc.restCount ≠ 0) ∧
      (8000 < ((smp 14501).value + (working .stopping).pt.belt.offset - (working .stopping).pt.belt.held).toInt ∧
        0 < ((smp 14501).value - (working .stopping).pt.belt.raw).toInt) ∧
      (let r := { tracking 6500 with offset := 8001 }
       8000 < ((smp 6500).value + r.offset - r.held).toInt ∧ ¬0 < ((smp 6500).value - r.raw).toInt) ∧
      { working .fault with lc.clearPending := true }.lc.clearPending = true ∧ (working .running).lc.line ≠ .stopping := by
  decide

set_option maxRecDepth 8000 in
/-- The entries to STOPPED (`ClearLeavesFaultAtRest`, `EncoderSamplesAreTakenByState`, `AppliedSamplesMoveThePosition`): the
record's bit set and clear, a zone that moves and one that stands; a lock newly engaged and not. -/
theorem test_hyp_standby_on_stop :
    (let s := { working .stopping with lc.record := { record with standbyOnStop := true }, lc.restCount := 1 }
     s.lc.record.standbyOnStop = true ∧ s.lc.line = .stopping ∧ s.zr.zones[0].stored.length ≠ 0 ∧ s.zr.zones[0].state = .ready ∧
       s.zr.zones[1].stored.length = 0) ∧
      (working .fault).lc.record.standbyOnStop = false ∧ (working .fault).lc.line = .fault ∧
      (let s := { working .fault with lc.record := { record with standbyOnStop := true } }
       s.lc.record.standbyOnStop = true ∧ s.lc.line = .fault) ∧
      (let z1 := zone .ready
       let locked := { z1 with stored := { z1.stored with lock := true }, target := some 1600 }
       let s := { working .stopping with zr.zones := (base.zr.zones.set 0 locked).set 1 { z1 with stored := { z1.stored with start := 10 } } }
       s.zr.locks[0] = false ∧ (standbyZones zoneIndices s).zr.locks[0] = true ∧ (standbyZones zoneIndices s).zr.locks[1] = false) := by
  decide

set_option maxRecDepth 8000 in
/-- R98: the second sample at rest puts READY zone 1 to standby, and leaves it with the bit clear. -/
theorem test_standby_on_stop :
    (let s := { working .stopping with lc.restCount := 1 }
     let t := after (.encoderSample .belt (smp 6500)) { s with lc.record := { record with standbyOnStop := true } }
     t.lc.line = .stopped ∧ t.zr.zones[0].state = .standbySettling ∧ t.zr.zones[0].target = some 1200 ∧ t.zr.zones[1].state = .shut ∧
       (after (.encoderSample .belt (smp 6500)) s).zr.zones[0].state = .ready) := by
  decide

/-- R74, R171: the second reverse sample with no advance in STOPPING brings STOPPED. -/
theorem test_reverse_stops :
    (after (.encoderSample .belt (smp 6499)) { working .stopping with lc.restCount := 1 }).lc.line = .stopped := by decide

/-- `AppliedSamplesMoveThePosition`: advances of 0 and 8000, the boundary reached and one unit short, and the rest counts. -/
theorem test_hyp_applied :
    (working .stopping).pt.infeed.state = .tracking ∧ ((smp 10000).value - (working .stopping).pt.infeed.held).toNat ≤ 8000 ∧
      (smp 2000).value + (working .stopping).pt.infeed.offset = (working .stopping).pt.infeed.held ∧
      (base.fs.state = .idle ∧ base.sc.target = none ∧ base.sc.seam = none) ∧
      ((smp 7000).value + 0 - (working .stopping).pt.nextBoundary).toInt = 0 ∧
      ((smp 6999).value + 0 - (working .stopping).pt.nextBoundary).toInt < 0 ∧ (working .stopping).lc.line = .stopping ∧
      0 < ((smp 6501).value - (working .stopping).pt.belt.raw).toInt ∧ ((smp 6500).value - (working .stopping).pt.belt.raw).toInt ≤ 0 ∧
      (working .stopping).lc.restCount = 0 ∧ { working .stopping with lc.restCount := 1 }.lc.restCount = 1 := by
  decide

/-- `AppliedSamplesMoveThePosition` and `FoldsAreSentOrLost`, the event handed to SC first: a target whose firing position the
sample reaches, a seam it reaches, in FORMING short of the boundary, and in IDLE. -/
theorem test_hyp_event :
    (let s := { working .running with
       sc.state := .window, sc.target := some { seam := 6000, fire := 3000, forced := true }
       sc.seam := some { seam := 2500, attached := none, reached := false } }
     (smp 3000).value + s.pt.infeed.offset ≠ s.pt.infeed.held ∧ s.fs.state = .forming ∧ s.sc.target.isSome = true ∧
       ((smp 3000).value - s.fs.cursor.boundary).toInt < 0 ∧
       { s with fs.state := .idle }.fs.state = .idle) := by
  decide

set_option maxRecDepth 8000 in
/-- R139, R79: an infeed sample that reaches the firing position fires the splice. -/
theorem test_sample_fires :
    (let t := after (.encoderSample .infeed (smp 3000))
       { working .running with sc.state := .window, sc.target := some { seam := 6000, fire := 3000, forced := true } }
     t.sc.state = .firing ∧ t.sc.firing = some 500 ∧ t.fs.formed = 11000) := by
  decide

/-- `AppliedSamplesMoveThePosition`, the line first: two boundaries reached, with the belt at rest in STOPPING after one
sample with no advance, and in FAULT with CLEAR waiting. -/
theorem test_hyp_belt_sample :
    (let s := { working .stopping with lc.restCount := 1, pt.belt := { tracking 6500 with offset := 1500 } }
     (s.pt.belt.state = .tracking ∧ ((smp 6500).value + s.pt.belt.offset - s.pt.belt.held).toNat ≤ 8000) ∧
       ((smp 6500).value + s.pt.belt.offset - s.pt.nextBoundary).toInt = 1000 ∧ ¬0 < ((smp 6500).value - s.pt.belt.raw).toInt ∧
       s.lc.restCount ≠ 0 ∧ s.lc.line = .stopping) ∧
      (let s := { working .fault with lc.clearPending := true }
       s.lc.line = .fault ∧ s.lc.clearPending = true ∧ ¬0 < ((smp 6500).value - s.pt.belt.raw).toInt) := by
  decide

/-- `TimersFaultTheLine`: each timer just due, and just not. -/
theorem test_hyp_timers :
    (working .running).rp.inReset = false ∧ 200 ≤ ((600 : Clock) - (working .running).pt.belt.lastArrival).toNat ∧
      200 ≤ ((600 : Clock) - (working .running).pt.belt.watchStart).toNat ∧
      ¬200 ≤ ((599 : Clock) - (working .running).pt.belt.lastArrival).toNat ∧ 2000 ≤ ((2001 : Clock) - 1).toNat ∧
      ¬2000 ≤ ((2000 : Clock) - 1).toNat ∧ 5000 ≤ ((5001 : Clock) - 1).toNat ∧ ¬5000 ≤ ((5000 : Clock) - 1).toNat ∧
      (working .running).sc.timeoutTaken = false ∧ (working .running).tc.timeoutTaken = false := by
  decide

/-- Zones 1 and 2 SHUT, zone 1 under manual control with its lock flag set. -/
def lockedPair : State :=
  let z1 := zone .shut
  { base with
    zr.zones :=
      (base.zr.zones.set 0
          { z1 with stored := { stored with lock := true, manual := true, manualUpper := 500, manualLower := 950 }, target := none }).set
        1 { z1 with stored := { stored with start := 10, valveMax := 450 }, target := none } }

/-- Zones 1 and 2 READY with their lock engaged, zone 2's own valve max 450. -/
def engagedPair : State :=
  let z1 := zone .ready
  { base with
    zr.zones := (base.zr.zones.set 0 { z1 with stored := { stored with lock := true } }).set 1
      { z1 with stored := { stored with start := 10, valveMax := 450 } }
    zr.locks := base.zr.locks.set 0 true }

/-- The zones after a ZONE entry, if it is stored. -/
def zonesAfter (z : Fin 8) (e : ZoneStored) (s : State) : Option ZoneRegulators :=
  match takeEntry .zones z.val e.bytes s with
  | .stored t => some t.zr
  | .refused _ => none

set_option maxRecDepth 8000 in
/-- `ClassEntryIsStoredWholeOrRefused`, a lock that stays engaged: the valve max of the odd zone lowered to between its two
openings, and its manual flag set; one that is lost, by the lock flag cleared; and an entry for the even zone. -/
theorem test_hyp_zone_locked :
    engagedPair.zr.locks[0] = true ∧ locksJudged engagedPair ∧
      (∀ e ∈ [{ stored with lock := true, valveMax := 290 }, { stored with lock := true, manual := true, manualUpper := 500 }],
        ((zonesAfter 0 e engagedPair).map fun r => r.locks[0]) = some true) ∧
      ((zonesAfter 0 stored engagedPair).map fun r => r.locks[0]) = some false ∧
      ((zonesAfter 1 { stored with start := 10, valveMax := 100 } engagedPair).map fun r => r.locks[0]) = some true ∧
      (290 < ((zone .ready).half .upper).valve ∧ ((zone .ready).half .lower).valve ≤ 290) := by
  refine ⟨by decide, by decide, by decide, by decide, by decide, by decide⟩

set_option maxRecDepth 8000 in
/-- R102 to R104: the valve max lowered to 290 brings zone 1's upper valve from 300 to 290 and zone 2's with it, and leaves the
lower ones; manual values of 500 and 0 go to zone 2 as 450 and 0; and an entry for zone 2 leaves zone 1. -/
theorem test_zone_locked :
    ((zonesAfter 0 { stored with lock := true, valveMax := 290 } engagedPair).map fun r =>
        (r.zones[0].upper.valve, r.zones[0].lower.valve, r.zones[1].upper.valve, r.zones[1].lower.valve)) =
        some (290, 280, 290, 280) ∧
      ((zonesAfter 0 { stored with lock := true, manual := true, manualUpper := 500 } engagedPair).map fun r =>
        (r.zones[0].upper.valve, r.zones[0].lower.valve, r.zones[1].upper.valve, r.zones[1].lower.valve)) =
        some (500, 0, 450, 0) ∧
      ((zonesAfter 1 { stored with start := 10, valveMax := 100 } engagedPair).map fun r =>
        (r.zones[0].upper.valve, r.zones[1].upper.valve, r.zones[1].lower.valve)) = some (300, 100, 100) := by
  refine ⟨by decide, by decide, by decide⟩

/-- `BusyAndMalformedRequestsChangeNothing`, a CLOSE and a LINE RESET of the wrong length: from the source of an open write, from
another, and with no write open. -/
theorem test_hyp_close_length :
    reachesMU (rq [7]) (writing .zones 3 4 1) ∧ (rq [7]).args ≠ [] ∧
      ((writing .zones 3 4 1).mu.openWrite.map OpenWrite.source) = some (rq [7]).src ∧
      { rq [7] with src := 41 }.src ≠ (rq [7]).src ∧ base.mu.openWrite = none ∧ reachesMU (rq [7]) base := by
  decide

/-- R196, R198: such a CLOSE is refused behind the closing response of its write; such a LINE RESET leaves the write open. -/
theorem test_close_length :
    (after (.closeWrite (rq [7])) (writing .zones 3 4 1)).report =
        [.response 40 1 9 .partialClose .none 3 [0, 3, 1], .response 40 3 1 .refused .length 0 []] ∧
      (after (.lineReset (rq [7])) (writing .zones 3 4 1)).mu.openWrite.isSome = true := by
  decide

set_option maxRecDepth 8000 in
/-- `SampleFramesAreTheirCommands`, `PortFreeSendsInOrder`: an entry that binds a role and meets a frame's source and channel, and
none before it; a map that holds none. -/
theorem test_hyp_binds :
    (let s := { base with nm := base.nm.set 0 (binding 9 2 1) }
     entryBinds s.nm[0] (.encoder .infeed) ∧ s.nm[0].valid = true ∧
       s.nm[0].node.toNat = (frameOf (frameFrom 9 1 1 [2, 0, 0, 0, 7, 0])).src.toNat ∧
       s.nm[0].channel = byteAt (frameOf (frameFrom 9 1 1 [2, 0, 0, 0, 7, 0])).payload 0 ∧ ∀ j : Fin 64, ¬j < 0) ∧
      ∀ i : Fin 64, base.nm[i].valid = false := by
  refine ⟨by decide, by decide⟩

/-- R194: role code 19 with zone 3 and the half bit binds the lower valve of zone 3, and with zone 9 nothing. -/
theorem test_binds :
    (NodeEntry.ofBytes [0x89, 5, 19, 0x13]).binds = some (.act (.valve 2 .lower)) ∧
      (NodeEntry.ofBytes [0x89, 5, 19, 0x19]).binds = none ∧ (NodeEntry.ofBytes [0x09, 5, 19, 0x13]).binds = none := by
  decide

/-- `AdmitAppendsOnePieceOrIsRefused`, the id: the counter free; its value and the next two taken, across 65535. -/
theorem test_hyp_piece_id :
    (∀ p ∈ (working .running).pq.pieces, p.id ≠ (working .running).pq.nextId) ∧
      (let s := { working .running with pq.pieces := [piece 65535 9000 .formed, piece 1 13000 .formed, piece 65534 5000 .formed], pq.nextId := 65534 }
       let next (n : Nat) : Nat := if 65535 ≤ n then 1 else n + 1
       (∀ j, j < 3 → ∃ p ∈ s.pq.pieces, p.id = Nat.repeat next j s.pq.nextId) ∧
         (∀ p ∈ s.pq.pieces, p.id ≠ Nat.repeat next 3 s.pq.nextId) ∧ newId s = 2) := by
  decide

set_option maxRecDepth 8000 in
/-- `StandbyAndWakeMoveTheZones`, the lock after a WAKE of ALL: an odd zone driven, its lock newly engaged; a WAKE of zone 1
alone, the lock not engaged; an odd zone in STANDBY with its lock engaged; an even zone driven. -/
theorem test_hyp_wake_lock :
    (served (rq [0]) lockedPair ∧ (rq [0]).args.length = 1 ∧ lockedPair.zr.locks[0] = false ∧
        (after (.wake (rq [0])) lockedPair).zr.locks[0] = true ∧ lockedPair.zr.zones[0].state = .shut ∧
        lockedPair.zr.zones[0].stored.manual = true ∧ lockedPair.zr.zones[0].stored.length ≠ 0) ∧
      (after (.wake (rq [1])) lockedPair).zr.locks[0] = false ∧
      (let s := { lockedPair with zr.locks := base.zr.locks.set 0 true, zr.zones := (lockedPair.zr.zones.set 0 { lockedPair.zr.zones[0] with state := .standby, target := some 1200 }).set 1 { lockedPair.zr.zones[1] with state := .standby, target := some 1200 } }
       s.zr.locks[0] = true ∧ s.zr.zones[0].state ≠ .shut ∧ (after (.wake (rq [0])) s).zr.locks[0] = true) ∧
      (let z := lockedPair.zr.zones[1]
       let s := { lockedPair with zr.zones := lockedPair.zr.zones.set 1 { z with stored := { z.stored with manual := true } } }
       s.zr.zones[1].state = .shut ∧ s.zr.zones[1].stored.manual = true ∧ s.zr.zones[1].stored.length ≠ 0) := by
  refine ⟨by decide, by decide, by decide, by decide⟩

set_option maxRecDepth 8000 in
/-- R103, R104: woken, zone 1 goes to 500 and its valve max 900, and zone 2, newly locked to it, to its own valve max 450. -/
theorem test_wake_lock :
    (let t := after (.wake (rq [0])) lockedPair
     (t.zr.zones[0].upper.valve, t.zr.zones[0].lower.valve, t.zr.zones[1].upper.valve, t.zr.zones[1].lower.lastSent) =
       (500, 900, 450, some 450)) := by
  decide

/-- The running line with a target at a seam position, its firing position reached. -/
def targeted (seam : Position) : State :=
  { working .running with sc.state := .window, sc.target := some { seam := seam, fire := 2000, forced := false } }

/-- `UnwindSamplesFollowTheTable`: values 0, 1 and 2; FIRING; the ACTIVE roll low, with and without a standby. -/
theorem test_hyp_unwind :
    sampled (smp 2) (working .running) ∧ 1 < (smp 2).value.toNat ∧ (smp 1).value.toNat ≤ 1 ∧
      (working .running).sc.state ≠ .firing ∧ { working .running with sc.state := .firing }.sc.state = .firing ∧
      (unwindOf .a (working .running).sc).state = .active ∧ (unwindOf .b (working .running).sc).state = .loaded ∧
      (unwindOf .b (working .running).sc).state ≠ .active ∧ min (smp 0).value.toInt.toNat 2000 ≤ (working .running).lc.record.forcedDiameter ∧
      (unwindOf .b base.sc).state ≠ .loaded ∧ (working .running).lc.record.spliceDiameter < min (smp 1).value.toInt.toNat 2000 := by
  decide

/-- `UnwindSamplesFollowTheTable`, the splicer: a standby mounted beside an ACTIVE roll of 800 above and at the splice
diameter, with a seam in flight and none; the standby EMPTY; a pair in ARMED. -/
theorem test_hyp_standby :
    (let s := { working .running with sc.unwindB := UnwindRecord.reset, sc.state := .idle }
     (unwindOf .b s.sc).state = .empty ∧ (unwindOf .a s.sc).state = .active ∧ (unwindOf .a s.sc).diameter = some 800 ∧
       s.lc.record.spliceDiameter < 800 ∧ { s with lc.record.spliceDiameter := 800 }.lc.record.spliceDiameter = 800 ∧
       s.sc.seam = none ∧
       (attachSeam { s with sc.state := .armed, sc.seam := some { seam := 3000, attached := none, reached := false } }).sc.seam.isSome = true) ∧
      (unwindOf .b (working .running).sc).state = .loaded ∧ ¬(UnwindState.empty = .active ∨ UnwindState.empty = .loaded) ∧
      (let s := { working .running with sc.unwindA := UnwindRecord.reset, sc.state := .armed }
       (unwindOf .b s.sc).state = .loaded ∧ (unwindOf .a s.sc).state ≠ .active ∧
         { s with sc.unwindA := { UnwindRecord.reset with state := .loaded } }.sc.unwindA.state = .loaded) := by
  decide

/-- R130, R132: a standby mounted beside an ACTIVE roll above the splice diameter makes the splicer READY. -/
theorem test_standby_mounted :
    (after (.unwindStatusSample .b (smp 1))
        { working .running with sc.unwindB := UnwindRecord.reset, sc.state := .idle }).sc.state = .ready := by
  decide

/-- `UnwindSamplesFollowTheTable`, the forced diameter: at it and one above; ARMED with and without a seam in flight; WINDOW
with a target beyond S_min, at it, and forced. -/
theorem test_hyp_forced :
    (let s := { working .running with lc.record.forcedDiameter := 800, sc.state := .armed }
     (unwindOf .a s.sc).state = .active ∧ (unwindOf .b s.sc).state = .loaded ∧ s.sc.state = .armed ∧ s.sc.seam = none ∧
       min (smp 800).value.toInt.toNat 2000 ≤ s.lc.record.forcedDiameter ∧
       s.lc.record.forcedDiameter < min (smp 801).value.toInt.toNat 2000 ∧
       { s with sc.seam := some { seam := 1, attached := none, reached := false } }.sc.seam.isSome = true) ∧
      ((targeted 2001).sc.target.map SpliceTarget.forced = some false ∧ (targeted 2001).sc.state = .window ∧
        (targeted 2001).pt.infeed.held = 2000 ∧ ((2000 : Position) - 2001).toInt < 0 ∧ 0 ≤ ((2000 : Position) - 2000).toInt) := by
  decide

/-- `DoneCompletesTheSplice`. -/
theorem test_hyp_done :
    sampled (smp 3) (working .running) ∧ 2 < (smp 3).value.toNat ∧ (smp 2).value = 2 ∧ (working .running).sc.state ≠ .firing ∧
      standbyUnwind { (working .running).sc with state := .firing } = some .b := by
  decide

/-- `DoneCompletesTheSplice`, the search: a lead is safe from S_min on, and its first position is the earliest; no safe
position within a seam margin of 2000; and a roll at the forced diameter. -/
theorem test_hyp_search :
    ((coverage (working .running)).map fun c => (c.id, c.start, c.stop, (c.items.map PlanItem.length).sum)) =
        [(1, 1000, 5000, 4000), (2, 5000, 9000, 4000)] ∧
      activeAtOrBelow (working .running).sc (working .running).lc.record.forcedDiameter = false ∧
      (-(2 ^ 30) < ((2000 : Position) - 1000).toInt ∧ ((2000 : Position) - 1000).toInt < 2 ^ 30) ∧
      ((coverage (working .running)).map fun c => (safeSpans c 0, safeSpans c 2000)) = [([(0, 4000)], []), ([(0, 4000)], [])] ∧
      (∀ c ∈ coverage (working .running), c.id = 1 → safeIn c 0 2000 = true) ∧
      activeAtOrBelow { (working .running).sc with unwindA := { state := .active, diameter := some 0, lastStatus := none } } 0 = true := by
  decide

/-- `DoneCompletesTheSplice`, coverage, spans and offsets: a piece in hand and an ADMITTED one behind it; no draw; the item of
a place, its last unit, the first of the next, and a run-out. -/
theorem test_hyp_coverage :
    ((working .running).fs.state = .forming ∧ (findPiece 1 (working .running)).map Piece.span = some (some (1000, 5000)) ∧
        ((working .running).pq.pieces.filter fun p => decide (p.state = .admitted))[0]? = some (piece 2 13000 .admitted)) ∧
      base.fs.state ≠ .forming ∧ base.fs.state ≠ .held ∧
      (let c : Cover := { id := 1, start := 1000, stop := 1250, items := [flatItem .lead 0 0 50, flatItem .runOut 0 0 200] }
       c.items = [flatItem .lead 0 0 50] ++ flatItem .runOut 0 0 200 :: [] ∧
         (50 ≤ ((1050 : Position) - c.start).toNat ∧ ((1050 : Position) - c.start).toNat < 50 + 200) ∧
         (0 ≤ ((1049 : Position) - c.start).toNat ∧ ((1049 : Position) - c.start).toNat < 0 + 50)) := by
  decide

/-- Piece 1, drawn from 1000, ended SHORT at an infeed position with a fold remainder, its run-out ending at 3400. -/
def shortened (ended : Position) (rest : Nat) (items : Run) : Piece :=
  { piece 1 9000 .formed with
    plan := { flatPlan 0 0 with runs := [items] }, flags := { short := true }, span := some (1000, 3400)
    cut := some (ended, rest) }

/-- A knife run of two pleats of spacing 150 and folds of 100 behind a lead of 500. -/
def twoPleats : Run :=
  { count := 2, spacing := 150, depthStart := 50, depthEnd := 50, taper := 1000, kind := .knife, dir := .left, lead := 500
    flat := false }

/-- The line in the run-out of a SHORT piece that ends at 3400, piece 2 ADMITTED. -/
def runningOut (p : Piece) : State :=
  { working .running with
    fs.cursor := { FoldCursor.none with item := .runOut, itemStart := 2000, boundary := 3400 }
    pq.pieces := [p, piece 2 13000 .admitted] }

/-- `DoneCompletesTheSplice`, the coverage in a run-out: with the SHORT piece in the queue, and without it; a piece ended in a
land, in a fold, at the end of a land and past its plan; one not ended. -/
theorem test_hyp_run_out :
    (let s := runningOut (shortened 1550 0 twoPleats)
     s.fs.state = .forming ∧ s.fs.cursor.piece = none ∧ s.pq.pieces = [] ++ shortened 1550 0 twoPleats :: [piece 2 13000 .admitted] ∧
       (shortened 1550 0 twoPleats).span.map Prod.snd = some s.fs.cursor.boundary ∧ (piece 2 13000 .admitted).state ≠ .formed) ∧
      (∀ p ∈ (working .running).pq.pieces, p.state ≠ .formed) ∧
      ((planItems (shortened 1550 0 twoPleats).plan).map fun i => (i.kind, i.length)) =
        [(.lead, 500), (.land, 150), (.fold, 100), (.land, 150), (.fold, 100)] ∧
      (500 ≤ ((1550 : Position) - 1000).toNat ∧ ((1550 : Position) - 1000).toNat < 500 + 150) ∧
      ((1700 : Position) - 1000).toNat < 650 + 100 ∧ ((1500 : Position) - 1000).toNat = 500 ∧
      1000 ≤ ((2000 : Position) - 1000).toNat ∧ (piece 1 9000 .forming).cut = none := by
  decide

/-- R134, R148: of a piece ended 50 units into its first land, the lead, the part of the land and the run-out; ended in its
first fold, the fold whole and then the run-out; and the ADMITTED piece begins at the run-out's end. -/
theorem test_run_out :
    ((pieceItems (shortened 1550 0 twoPleats)).map fun i => (i.kind, i.length)) = [(.lead, 500), (.land, 50), (.runOut, 1850)] ∧
      ((pieceItems (shortened 1700 50 twoPleats)).map fun i => (i.kind, i.length)) =
        [(.lead, 500), (.land, 150), (.fold, 100), (.runOut, 1650)] ∧
      ((coverage (runningOut (shortened 1550 0 twoPleats))).map fun c => (c.id, c.start, c.stop)) =
        [(1, 1000, 3400), (2, 3400, 7400)] := by
  decide

/-- R135, R144: of a lead of 100, a land of 150 and a fold of 200, the first two make one safe span of 30 to 220 at a margin
of 30, and a seam in the fold lies at the fold point. -/
theorem test_safe_span :
    (let c : Cover :=
       { id := 1, start := 0, stop := 450
         items := [flatItem .lead 0 0 100, { flatItem .land 0 0 150 with spacing := 150 }, flatItem .fold 0 0 200] }
     ([29, 30, 219, 220, 300].map (safeIn c 30)) = [false, true, true, false, false] ∧
       ([99, 249, 250, 449].map (seamOffset (piece 1 0 .forming) c)) = [99, 249, 250, 250]) := by
  decide

/-- `DoneCompletesTheSplice`, the firing and the seam: S in a piece, in one that holds a seam, and in none; not reached. -/
theorem test_hyp_fire :
    (targeted 3000).sc.state = .window ∧ standbyUnwind (targeted 3000).sc = some .b ∧
      0 ≤ ((targeted 3000).pt.infeed.held - 2000).toInt ∧ ((targeted 3000).pt.infeed.held - 2001).toInt < 0 ∧
      ((coverOf 3000 (coverage (targeted 3000))).map Cover.id = some 1 ∧ (findPiece 1 (targeted 3000)).map Piece.seam = some none) ∧
      coverOf 9000 (coverage (targeted 9000)) = none ∧
      { piece 1 9000 .forming with seam := some { position := 1, offset := 1 } }.seam.isSome = true ∧
      (0 ≤ ((4900 : Position) - 4900).toInt ∧ ((4899 : Position) - 4900).toInt < 0) := by
  decide

/-- `TakeUpSamplesMoveTheWinder`: values 2, 3 and 4, awaited and not, and a manifest set aside. -/
theorem test_hyp_take_up :
    sampled (smp 4) (working .running) ∧ 3 < (smp 4).value.toNat ∧ takeUpReport (smp 3).value = some .indexed ∧
      (working .running).tc.winder ≠ .cutting ∧ (smp 2).value = 2 ∧
      (let s := { working .running with tc.winder := .cutting, tc.closing := some { roll := 4, ids := [], unlisted := 0 }, mu.flags := 0x1000 }
       s.tc.winder = .cutting ∧ flagHeld .cutDone s = true ∧
         s.report.length + (rollNotice { roll := 4, ids := [], unlisted := 0 }).length ≤ 16) ∧
      { working .running with tc.winder := .indexing }.tc.winder = .indexing := by
  decide

/-- `FoldsAreSentOrLost`: a position one unit short of the boundary; a blade slot with room, and a full one. -/
theorem test_hyp_folds :
    sampled (smp 4999) (working .running) ∧ 1 ≤ ((smp 4999).value - (working .running).pt.infeed.held).toNat ∧
      (working .running).sc.target = none ∧ (working .running).sc.seam = none ∧ (working .running).fs.state = .forming ∧
      0 ≤ ((smp 4999).value - (working .running).fs.cursor.itemStart).toInt ∧
      ((smp 4999).value - (working .running).fs.cursor.boundary).toInt < 0 ∧ bladeCount base.act < 4 ∧
      4 ≤ bladeCount ((List.range 4).foldl (fun q _ => appendAct .blade (.fold 1 2 .left) q) base.act) := by
  decide

/-- A piece of two box pleats of 200, and a cursor on an item of it. -/
def folding (item : ItemKind) (pleat : Nat) : State :=
  { working .running with
    pq.pieces :=
      [{ piece 1 9000 .forming with plan := { flatPlan 4000 0 with runs := [Run.mk 2 150 100 100 1000 .box .left 0 false], tail := 2700 } }]
    fs.cursor := { FoldCursor.none with piece := some 1, item := item, pleat := pleat, itemStart := 1000, itemFormed := 9000, boundary := 1150 } }

/-- `FoldsAreSentOrLost`: one boundary reached, at the position itself, and no second; then the items of a piece: a land
with an item behind its fold, the last fold, the tail, the lead of a flat order, and a run-out. -/
theorem test_hyp_boundary :
    (let s := working .running
     0 ≤ ((smp 5000).value - s.fs.cursor.boundary).toInt ∧ 1 ≤ 2 * ((smp 5000).value - s.fs.cursor.itemStart).toNat + 4 ∧
       ((takeBoundary s).fs.state = .forming ∧ ((smp 5000).value - (takeBoundary s).fs.cursor.boundary).toInt < 0)) ∧
      (let s := folding .fold 1
       s.fs.cursor.piece = some 1 ∧ (findPiece 1 s).isSome = true ∧
         (∀ p ∈ findPiece 1 s, (planItems p.plan).map (fun i => (i.kind, i.run, i.pleat)) =
           [(.land, 0, 0), (.fold, 0, 0), (.land, 0, 1), (.fold, 0, 1), (.tail, 0, 0)])) ∧
      (planItems (piece 1 9000 .forming).plan).map (fun i => (i.kind, i.run, i.pleat)) = [(.lead, 0, 0)] ∧
      base.fs.cursor.piece = none := by
  decide

/-- R52: a BOX run of 6 pleats in direction LEFT is laid LEFT, RIGHT, RIGHT, LEFT, LEFT, RIGHT, mirrored as well. -/
theorem test_box_directions :
    (∀ mirror ∈ [false, true],
      ((planItems { flatPlan 4000 0 with mirror := mirror, runs := [Run.mk 6 150 100 100 1000 .box .left 0 false] }).filter
          fun i => decide (i.kind = .fold)).map PlanItem.dir = [.left, .right, .right, .left, .left, .right]) ∧
      (∀ mirror ∈ [false, true],
        ((planItems { flatPlan 4000 0 with mirror := mirror, runs := [Run.mk 3 150 100 100 1000 .accordion .left 0 false] }).filter
          fun i => decide (i.kind = .fold)).map PlanItem.dir =
            if mirror = true then [.right, .left, .right] else [.left, .right, .left]) := by
  decide

/-- R57, R61: at the end of a land the pleat's FOLD is sent, and the cursor is on the fold under the next land's ratio. -/
theorem test_fold_sent :
    (let t := takeBoundary (folding .land 0)
     (t.act.entries.filter fun e => decide (e.role = .blade)).map ActEntry.command = [.fold 100 100 .left] ∧
       t.fs.cursor.item = .fold ∧ t.fs.cursor.ratio = .pleat 350 150 ∧ t.fs.formed = 10150) := by
  decide

/-- `HeatLimitFollowsTheGoverningPiece`, the infeed limit: a folded run, its largest consumption met; an item with no run; a
flat run. -/
theorem test_hyp_infeed_limit :
    (let s := folding .land 0
     let r := Run.mk 2 150 100 100 1000 .box .left 0 false
     s.fs.cursor.piece = some 1 ∧ (findPiece 1 s).map (fun p => (p.plan.mirror, p.plan.runs)) = some (false, [r]) ∧ s.fs.cursor.run = 0 ∧
       r.flat = false ∧ (∀ k, k < r.count → r.spacing + leftDepth r k + rightDepth r k ≤ 350) ∧
       r.spacing + leftDepth r 0 + rightDepth r 0 = 350 ∧ (recompute s).sg.vInf = 342) ∧
      base.fs.cursor.piece = none ∧ (folding .tail 0).fs.cursor.item = .tail ∧
      ((findPiece 1 (working .running)).map fun p => p.plan.runs.map Run.flat) = some [true] := by
  decide

/-- `FoldsAreSentOrLost`, a seam behind a lost fold: at the fold point, within the fold and before it. -/
theorem test_hyp_lost_seam :
    (let p := { piece 1 9000 .forming with seam := some { position := 1150, offset := 150 } }
     let s := { folding .land 0 with pq.pieces := [p], act := (List.range 4).foldl (fun q _ => appendAct .blade (.fold 1 2 .left) q) base.act }
     4 ≤ bladeCount s.act ∧ findPiece 1 s = some p ∧ 0 ≤ ((1150 : Position) - 1150).toInt ∧ ((1150 : Position) - 1151).toInt < 0) ∧
      findPiece 1 base = none := by
  decide

/-- R146: a seam 60 units into a lost fold of 200 moves on by 60. -/
theorem test_lost_seam :
    (let p := { piece 1 9000 .forming with seam := some { position := 1210, offset := 150 } }
     let s := { folding .land 0 with pq.pieces := [p], act := (List.range 4).foldl (fun q _ => appendAct .blade (.fold 1 2 .left) q) base.act }
     let it : PlanItem := { flatItem .fold 0 0 200 with spacing := 150, left := 100, right := 100 }
     (sendFold 1 it 1150 s).pq.pieces.map (fun q => q.seam.map SeamRecord.offset) = [some 210]) := by
  decide

/-- `HeatLimitFollowsTheGoverningPiece`, the population: an enabled zone and none; a seam that counts without an exit mark and
at exit mark plus 1000, and one unit before it. -/
theorem test_hyp_population_members :
    (working .running).zr.zones[0].stored.length ≠ 0 ∧ lastZoneEnd base = 0 ∧
      (0 ≤ ((9000 : Position) + BitVec.ofNat 32 500 - (8500 + 1000)).toInt ∧
        ¬0 ≤ ((9000 : Position) + BitVec.ofNat 32 499 - (8500 + 1000)).toInt) ∧
      (population (working .running)).map Piece.id = [1] := by
  decide

/-- R122: Dmin 5001, margin 37 and surplus 111 require 5186037, and with a seam 5761687 of the 5761687107 thousandths. -/
theorem test_requirement :
    (let s := { working .running with
       da.classes := base.da.classes.set 0 { tbase := 100, dmin := 5001, dmax := 90000, margin := 37, splice := 111 } }
     requirement (piece 1 9000 .forming) s = 5186037 ∧
       requirement { piece 1 9000 .forming with seam := some { position := 1, offset := 1 } } s = 5761687) := by
  decide

/-- `BeltAdvancesAgeTheCells`: cells in order; one that reaches the tunnel's end, and none that does; a STALE zone. -/
theorem test_hyp_belt_advance :
    (working .running).cl.Pairwise (fun a b => a.index < b.index) ∧ lastZoneEnd (working .running) = 10 ∧
      (∀ c ∈ (working .running).cl, c.index + 1 ≠ 10) ∧ (cell 9 1000 1 0).index + 1 = lastZoneEnd (working .running) ∧
      { zone .ready with stale := true }.stale = true ∧ { zone .ready with stale := true }.stored.length ≠ 0 := by
  decide

/-- `WalkedPlansMeetTheirRanges`, the adjustment: a kind; a folded and a flat run; and R19's note 1, a spacing of 20 raised to 30
with a depth limit of 90, with an odd BOX count and a lead above 50,000. -/
theorem test_adjusted :
    adjustRun false
        { count := 7, spacing := 20, depthStart := 91, depthEnd := 90, taper := 200, kind := some .box, dir := .right, lead := 50001
          flat := false } = Run.mk 6 30 90 90 1000 .box .right 50000 false ∧
      (adjustRun true
        { count := 7, spacing := 601, depthStart := 1201, depthEnd := 0, taper := 1001, kind := some .knife, dir := .left, lead := 50000
          flat := false } = Run.mk 7 600 1200 0 1000 .knife .left 50000 true) := by
  decide

/-- `BeltAdvancesAgeTheCells`, the new cell and the last: a piece whose span contains the formed counter, and none; a cell at
the knife, and one before it. -/
theorem test_hyp_new_cell :
    ((beltAdvance (working .running)).pq.pieces = [] ++ piece 1 9000 .forming :: [piece 2 13000 .admitted] ∧
        ((10000 : Position) - (piece 1 9000 .forming).beltStart).toNat <
          ((piece 1 9000 .forming).beltEnd - (piece 1 9000 .forming).beltStart).toNat) ∧
      (beltAdvance base).pq.pieces = [] ∧ (beltAdvance base).cl.map BeltCell.piece = [none] ∧
      ((working .running).lc.record.knife ≤ (cell 128 8000 7 30).index ∧ (cell 127 8000 7 30).index < (working .running).lc.record.knife) := by
  decide

/-- `RetiredCellsAreJudged`: a cell of a panel piece, of a filler piece, and of none. -/
theorem test_hyp_retired :
    (cell 128 9000 1 5).piece = some 1 ∧ (findPiece 1 (working .running)).isSome = true ∧
      (∀ p ∈ findPiece 1 (working .running), p.slot.isSome = true ∧ p.verdict ≠ .filler) ∧ (fillerPiece base).slot = none ∧
      { cell 128 9000 1 5 with piece := none }.piece = none := by
  decide

/-- `RetiredCellsAreJudged`, the head: STEPPED and not starved; a cell that names it and none; its belt end reached by the
last unit, and not. -/
theorem test_hyp_head :
    (working .running).lc.record.continuous = false ∧ (working .running).fs.state ≠ .starved ∧
      (working .running).pq.pieces = piece 1 9000 .forming :: [piece 2 13000 .admitted] ∧
      (∃ c ∈ (working .running).cl, c.piece = some (piece 1 9000 .forming).id) ∧ (¬∃ c ∈ base.cl, c.piece = some 1) ∧
      (piece 1 9000 .formed).state = .formed ∧ 0 ≤ ((12000 : Position) + 1000 - (piece 1 9000 .formed).beltEnd).toInt ∧
      ¬0 ≤ ((11999 : Position) + 1000 - (piece 1 9000 .formed).beltEnd).toInt := by
  decide

/-- `CutsFallAtBoundaries`: a boundary and not, each winder state, a new order. -/
theorem test_hyp_cuts :
    some 1 ≠ (working .running).tc.currentPiece ∧ some 7 = (working .running).tc.currentPiece ∧
      (working .running).tc.winder = .winding ∧ { working .running with tc.winder := .cutPending, tc.forced := true }.tc.forced = true ∧
      (let s := { working .running with lc.record.perOrder := true, tc.lastOrder := some (0, 0) }
       (findPiece 1 s).isSome = true ∧ s.lc.record.perOrder = true ∧ s.tc.lastOrder.isSome = true ∧
         ∀ p ∈ findPiece 1 s, p.slot.isSome = true ∧ s.tc.lastOrder ≠ p.slot.map fun i => (i, p.load)) ∧
      { working .running with tc.winder := .indexing }.tc.winder = .indexing := by
  decide

/-- R162: 50 ids leave in three frames of 24, 24 and 2; none in one frame. -/
theorem test_roll_frames :
    ((rollNotice { roll := 4, ids := List.range 50, unlisted := 0 }).map fun r => match r with
        | .roll _ frame frames count _ ids => (frame, frames, count, ids.length)
        | _ => (0, 0, 0, 0)) = [(1, 3, 50, 24), (2, 3, 50, 24), (3, 3, 50, 2)] ∧
      rollNotice { roll := 4, ids := [], unlisted := 0 } = [.roll 4 1 1 0 0 []] := by
  decide

/-- R194: a FOLD of 300 and 12 to the right on channel 5, and the PIECE notice of a GOOD piece without a seam. -/
theorem test_payloads :
    actPayload 5 (.fold 300 12 .right) = [5, 1, 1, 44, 0, 12, 0, 1] ∧
      reportPayload (.piece 258 (some 3) .good (some (7, 65536)) { short := true } none) =
        [2, 1, 2, 3, 0, 0, 0, 7, 1, 0, 0, 2, 255, 255, 255] := by
  decide

/-- `CutsFallAtBoundaries`, no cut fired: off a boundary in each state, CUT_PENDING unforced; a diameter at hard-full and one
below it; 64 ids listed by the retirement. -/
theorem test_hyp_no_cut :
    (let at1 (w : WinderState) (d : Nat) : State :=
       { working .running with tc.winder := w, tc.diameter := some d, lc.record.hardFull := 800, lc.record.fullDiameter := 400 }
     some 7 = (at1 .winding 800).tc.currentPiece ∧ (at1 .cutPending 800).tc.forced = false ∧ (at1 .cutting 0).tc.winder ≠ .cutPending ∧
       (at1 .indexing 0).tc.winder ≠ .cutPending ∧ (at1 .winding 800).tc.diameter = some 800 ∧ 800 ≤ (at1 .winding 800).lc.record.hardFull ∧
       ¬800 ≤ 399) ∧
      some 1 ≠ (working .running).tc.currentPiece ∧ (working .running).tc.winder = .winding ∧
      64 ≤ (List.range 63 ++ [1]).length := by
  decide

/-- R154, R155: a diameter of 400 at a full diameter of 400 calls for a cut at a retirement off a boundary, and one of 800 at a
hard-full of 800 forces it. -/
theorem test_retire_diameter :
    (let at1 (d : Nat) : State :=
       takeUpRetire (some 7) { working .running with tc.diameter := some d, lc.record.hardFull := 800, lc.record.fullDiameter := 400 }
     ((at1 399).tc.winder, (at1 400).tc.winder, (at1 400).tc.forced, (at1 800).tc.forced, (at1 800).tc.current.ids) =
       (.winding, .cutPending, false, true, [7])) := by
  decide

/-- `CutsFallAtBoundaries`, the last order: at a boundary a panel piece, and one that is no panel's; not at a boundary. -/
theorem test_hyp_last_order :
    (some 1 ≠ (working .running).tc.currentPiece ∧ ((findPiece 1 (working .running)).bind Piece.slot) = some 1) ∧
      findPiece 7 (working .running) = none ∧ some 7 = (working .running).tc.currentPiece := by
  decide

/-! The conditions that every step keeps: a running line meets each of them. -/

theorem test_hyp_writes : writesInBounds (writing .pattern 4094 3 1) := by
  refine ⟨by decide, ?_⟩
  intro w h
  simp only [writing, Option.mem_def, Option.some.injEq] at h
  subst h
  decide

theorem test_hyp_queues : queuesInBounds (working .running) := by decide

theorem test_hyp_belt_table : beltByTable (working .running) := ⟨by decide, rfl⟩

theorem test_hyp_one_active : oneActiveUnwind (working .running) := by decide

theorem test_hyp_splicer : splicerConsistent (working .running) := by decide

theorem test_hyp_run_list : runListInOrder (working .running) := by
  refine ⟨by decide, by decide, by decide, by decide⟩

theorem test_hyp_piece_ids : pieceIdsDistinct (working .running) := by decide

theorem test_hyp_sequencer : sequencerConsistent (working .running) := by decide

theorem test_hyp_cells : cellsInOrder (working .running) := by decide

theorem test_hyp_winder : takeUpConsistent (working .running) := by
  refine ⟨by decide, by simp [working, base, State.reset, hardReset], by decide, by decide, by decide, by decide⟩

theorem test_hyp_line_state : lineConsistent (working .running) := by decide

set_option maxRecDepth 20000 in
theorem test_hyp_node_map : nodeMapDistinct { base with nm := base.nm.set 0 (binding 9 2 1) } := by
  refine ⟨by decide, by decide⟩

set_option maxRecDepth 20000 in
theorem test_hyp_lookaside :
    lookasideDistinct { base with px := install base.px 7 1 (List.replicate 16 0) } := by decide

theorem test_hyp_valves : valvesLimited (working .running) := by decide

set_option maxRecDepth 8000 in
theorem test_hyp_locks : locksJudged (working .running) ∧ locksJudged (after (.wake (rq [0])) lockedPair) := by
  refine ⟨by decide, by decide⟩

theorem test_hyp_filler_range : fillerInRange (working .running) := by decide

/-- The step from that state. -/
theorem test_hyp_step :
    ∃ t, step ((working .running).withPending [.stop (rq [])]) = .next t ∧ t.lc.line = .stopping := ⟨_, rfl, rfl⟩

end Sys2Proof.Tests
end

section
namespace Sys2Proof.Machine

/-! ### Distinct tags in the lookaside (R4, R6)

Only `install` makes an entry valid, and a fetch calls it after `lookasideHit` has found no valid entry of that index. -/

/-- `lookasideDistinct`, of the translator alone. -/
def TagsDistinct (px : Translator) : Prop :=
  ∀ i j : Fin 32, i ≠ j → px.lookaside[i].valid = true → px.lookaside[j].valid = true →
    px.lookaside[i].tag ≠ px.lookaside[j].tag

theorem lookasideDistinct_iff (s : State) : lookasideDistinct s ↔ TagsDistinct s.px := Iff.rfl

/-- The lookaside alone decides. -/
theorem TagsDistinct.of_lookaside_eq {px px' : Translator} (h : TagsDistinct px) (e : px'.lookaside = px.lookaside) :
    TagsDistinct px' := by
  unfold TagsDistinct at *
  rwa [e]

/-- Entries that are no more valid than before, under the same tags, stay distinct. -/
theorem TagsDistinct.of_map {px px' : Translator} (h : TagsDistinct px) (f : LookEntry → LookEntry)
    (e : px'.lookaside = px.lookaside.map f) (hv : ∀ k, (f k).valid = true → k.valid = true)
    (ht : ∀ k, (f k).tag = k.tag) : TagsDistinct px' := by
  intro i j hij hi hj
  simp only [e, Fin.getElem_fin, Vector.getElem_map, ht] at hi hj ⊢
  exact h i j hij (hv _ hi) (hv _ hj)

/-- A lookaside in which no entry is valid. -/
theorem TagsDistinct.of_invalid {px : Translator} (h : ∀ i : Fin 32, px.lookaside[i].valid = false) : TagsDistinct px := by
  intro i j _ hi
  exact absurd ((h i).symm.trans hi) (by decide)

/-- A fetch misses exactly when no valid entry holds the index (R5). -/
theorem lookasideHit_eq_none_iff (px : Translator) (index : Nat) :
    lookasideHit px index = none ↔ ∀ k : Fin 32, px.lookaside[k].valid = true → px.lookaside[k].tag ≠ index := by
  simp only [lookasideHit, List.find?_eq_none, Bool.and_eq_true, decide_eq_true_eq, not_and, Vector.mem_toList_iff,
    Vector.mem_iff_getElem]
  constructor
  · exact fun h k => h _ ⟨k, k.isLt, rfl⟩
  · rintro h e ⟨k, hk, rfl⟩
    exact h ⟨k, hk⟩

theorem install_lookaside_pointer (px : Translator) (index : Nat) (slot : Fin 8) (copy : List Byte) :
    (install px index slot copy).lookaside[px.pointer] = { valid := true, tag := index, slot := slot, copy := copy } := by
  simp [install]

theorem install_lookaside_ne {px : Translator} {k : Fin 32} (hk : k ≠ px.pointer) (index : Nat) (slot : Fin 8)
    (copy : List Byte) : (install px index slot copy).lookaside[k] = px.lookaside[k] := by
  have : (px.pointer : Nat) ≠ k := fun e => hk (Fin.ext e.symm)
  simp [install, this]

/-- An index that missed is installed beside entries of other indices (R6). -/
theorem install_tagsDistinct {px : Translator} (h : TagsDistinct px) {index : Nat} (miss : lookasideHit px index = none)
    (slot : Fin 8) (copy : List Byte) : TagsDistinct (install px index slot copy) := by
  rw [lookasideHit_eq_none_iff] at miss
  intro i j hij hi hj
  by_cases hip : i = px.pointer
  · subst hip
    rw [install_lookaside_ne hij.symm] at hj ⊢
    rw [install_lookaside_pointer]
    exact (miss j hj).symm
  · rw [install_lookaside_ne hip] at hi ⊢
    by_cases hjp : j = px.pointer
    · subst hjp
      rw [install_lookaside_pointer]
      exact miss i hi
    · rw [install_lookaside_ne hjp] at hj ⊢
      exact h i j hij hi hj

@[simp] theorem fetch_tagsDistinct {px : Translator} (h : TagsDistinct px) (index : Nat) (kind : EntryKind)
    (slot : Fin 8) : TagsDistinct (fetch px index kind slot).1 := by
  unfold fetch
  split
  · split <;> exact h
  · rename_i miss
    dsimp only
    split
    · exact h
    · exact install_tagsDistinct h miss slot _

/-! ### The walk and the admissions -/

@[simp] theorem walkGrade_tagsDistinct {px : Translator} (h : TagsDistinct px) (slot : Fin 8) (o : OrderSlot) :
    TagsDistinct (walkGrade px slot o).1 := by
  have hf := fetch_tagsDistinct h (o.origin + o.gradeIndex) .grade slot
  unfold walkGrade
  (repeat' split) <;> simp_all

@[simp] theorem walkStyle_tagsDistinct {px : Translator} (h : TagsDistinct px) (slot : Fin 8) (ref : StyleRef)
    (cursor : Nat) : TagsDistinct (walkStyle px slot ref cursor).1 := by
  have hf := fetch_tagsDistinct h (ref.origin + cursor) .panel slot
  unfold walkStyle
  (repeat' split) <;> simp_all

@[simp] theorem gatherRuns_tagsDistinct (slot : Fin 8) (n index : Nat) {px : Translator} (h : TagsDistinct px) :
    TagsDistinct (gatherRuns slot n index px).1 := by
  induction n generalizing index px with
  | zero => exact h
  | succ n ih =>
    have hf := fetch_tagsDistinct h index .run slot
    unfold gatherRuns
    split
    · exact h
    · split
      · simp_all
      · rename_i px' e he
        have hr := ih (index + 1) (px := px') (by simpa [he] using hf)
        (repeat' split) <;> simp_all

@[simp] theorem walkPanel_tagsDistinct {px : Translator} (h : TagsDistinct px) (slot : Fin 8) (index : Nat)
    (e : List Byte) : TagsDistinct (walkPanel px slot index e).1 := by
  unfold walkPanel
  split
  · split <;> exact h
  · split
    · exact h
    · exact gatherRuns_tagsDistinct slot _ _ h

@[simp] theorem walk_tagsDistinct {px : Translator} (h : TagsDistinct px) (slot : Fin 8) (o : OrderSlot) :
    TagsDistinct (walk px slot o).1 := by
  unfold walk
  split
  · exact h
  · have hg := walkGrade_tagsDistinct h slot o
    split
    · simp_all
    · rename_i px1 ref he
      have hs := walkStyle_tagsDistinct (px := px1) (by simpa [he] using hg) slot ref o.cursor
      split
      · simp_all
      · rename_i px2 index e hse
        have hp := walkPanel_tagsDistinct (px := px2) (by simpa [hse] using hs) slot index e
        (repeat' split) <;> simp_all

@[simp] theorem admitFrom_tagsDistinct (slot : Fin 8) {s : State} (h : TagsDistinct s.px) :
    TagsDistinct (admitFrom slot s).1.px := by
  have hw := walk_tagsDistinct h slot s.pq.slots[slot]
  unfold admitFrom
  dsimp only
  split <;> rename_i hwalk <;> rw [hwalk] at hw
  · simpa using hw
  · simpa using hw

@[simp] theorem admitLoop_tagsDistinct (n : Nat) {s : State} (h : TagsDistinct s.px) :
    TagsDistinct (admitLoop n s).px := by
  induction n generalizing s with
  | zero => exact h
  | succ n ih =>
    unfold admitLoop
    split
    · split
      · exact ih (admitFrom_tagsDistinct _ h)
      · exact h
    · exact h

@[simp] theorem admissionCheck_tagsDistinct {s : State} (h : TagsDistinct s.px) :
    TagsDistinct (admissionCheck s).px := by
  unfold admissionCheck
  split <;> simp [h]

@[simp] theorem admitAfter_tagsDistinct (old new : LineState) {s : State} (h : TagsDistinct s.px) :
    TagsDistinct (admitAfter old new s).px := by
  unfold admitAfter
  split <;> simp [h]

@[simp] theorem changeLine_tagsDistinct (new : LineState) {s : State} (h : TagsDistinct s.px) :
    TagsDistinct (changeLine new s).px := by
  simp [changeLine, h]

@[simp] theorem stopLine_tagsDistinct {s : State} (h : TagsDistinct s.px) :
    TagsDistinct (stopLine s).px := by
  simp [stopLine, h]

@[simp] theorem lineFault_tagsDistinct (c : LineFault) {s : State} (h : TagsDistinct s.px) :
    TagsDistinct (lineFault c s).px := by
  unfold lineFault
  split <;> simp [h]

@[simp] theorem leaveFault_tagsDistinct {s : State} (h : TagsDistinct s.px) :
    TagsDistinct (leaveFault s).px := by
  simp [leaveFault, h]

@[simp] theorem judgeBeltSample_tagsDistinct (advanced : Bool) {s : State} (h : TagsDistinct s.px) :
    TagsDistinct (judgeBeltSample advanced s).px := by
  unfold judgeBeltSample
  (repeat' split) <;> simp [h]

@[simp] theorem startPiece_tagsDistinct (p : Piece) (start : Position) {s : State} (h : TagsDistinct s.px) :
    TagsDistinct (startPiece p start s).px := by
  simp [startPiece, h]

@[simp] theorem starve_tagsDistinct {s : State} (h : TagsDistinct s.px) :
    TagsDistinct (starve s).px := by
  unfold starve
  dsimp only
  split <;> simp [h]

@[simp] theorem needPiece_tagsDistinct (start : Position) {s : State} (h : TagsDistinct s.px) :
    TagsDistinct (needPiece start s).px := by
  unfold needPiece
  split
  · simp [h]
  · split <;> simp [h]

@[simp] theorem needOnRunning_tagsDistinct {s : State} (h : TagsDistinct s.px) :
    TagsDistinct (needOnRunning s).px := by
  unfold needOnRunning
  split <;> simp [h]

@[simp] theorem toldOfRoom_tagsDistinct {s : State} (h : TagsDistinct s.px) :
    TagsDistinct (toldOfRoom s).px := by
  unfold toldOfRoom
  split
  · split <;> simp [h]
  · exact h

@[simp] theorem finishPiece_tagsDistinct (id : Nat) (stop : Position) {s : State} (h : TagsDistinct s.px) :
    TagsDistinct (finishPiece id stop s).px := by
  simp [finishPiece, h]

@[simp] theorem nextItem_tagsDistinct (id : Nat) (rest : List PlanItem) (b : Position) {s : State} (h : TagsDistinct s.px) :
    TagsDistinct (nextItem id rest b s).px := by
  unfold nextItem
  split <;> simp [h]

@[simp] theorem takeFoldPoint_tagsDistinct (p : Piece) (rest : List PlanItem) (b : Position) {s : State} (h : TagsDistinct s.px) :
    TagsDistinct (takeFoldPoint p rest b s).px := by
  unfold takeFoldPoint
  split
  · simp [h]
  · dsimp only
    split <;> simp [h]

@[simp] theorem takeFlatEnd_tagsDistinct (p : Piece) (rest : List PlanItem) (b : Position) {s : State} (h : TagsDistinct s.px) :
    TagsDistinct (takeFlatEnd p rest b s).px := by
  unfold takeFlatEnd
  dsimp only
  split
  · simp [h]
  · split <;> simp [h]

@[simp] theorem takeRunOutEnd_tagsDistinct {s : State} (h : TagsDistinct s.px) :
    TagsDistinct (takeRunOutEnd s).px := by
  simp [takeRunOutEnd, h]

@[simp] theorem takeBoundary_tagsDistinct {s : State} (h : TagsDistinct s.px) :
    TagsDistinct (takeBoundary s).px := by
  unfold takeBoundary
  dsimp only
  (repeat' split) <;> simp [h]

@[simp] theorem takeBoundaries_tagsDistinct (n : Nat) (x : Position) {s : State} (h : TagsDistinct s.px) :
    TagsDistinct (takeBoundaries n x s).px := by
  induction n generalizing s with
  | zero => exact h
  | succ n ih =>
    unfold takeBoundaries
    split
    · exact ih (takeBoundary_tagsDistinct h)
    · exact h

@[simp] theorem foldInfeed_tagsDistinct (x : Position) {s : State} (h : TagsDistinct s.px) :
    TagsDistinct (foldInfeed x s).px := by
  unfold foldInfeed
  split <;> simp [h]

@[simp] theorem restartResume_tagsDistinct {s : State} (h : TagsDistinct s.px) :
    TagsDistinct (restartResume s).px := by
  unfold restartResume
  split <;> simp [h]

@[simp] theorem restartNeed_tagsDistinct (x : Position) {s : State} (h : TagsDistinct s.px) :
    TagsDistinct (restartNeed x s).px := by
  unfold restartNeed
  split <;> simp [h]

@[simp] theorem restartLine_tagsDistinct {s : State} (h : TagsDistinct s.px) :
    TagsDistinct (restartLine s).px := by
  unfold restartLine
  dsimp only
  split <;> simp [h]

@[simp] theorem removeHead_tagsDistinct (p : Piece) {s : State} (h : TagsDistinct s.px) :
    TagsDistinct (removeHead p s).px := by
  simp [removeHead, h]

@[simp] theorem testHead_tagsDistinct (n : Nat) (c : Position) {s : State} (h : TagsDistinct s.px) :
    TagsDistinct (testHead n c s).px := by
  induction n generalizing s with
  | zero => exact h
  | succ n ih =>
    unfold testHead
    split
    · split
      · exact ih (removeHead_tagsDistinct _ h)
      · exact h
    · exact h

@[simp] theorem retireCell_tagsDistinct (c : BeltCell) {s : State} (h : TagsDistinct s.px) :
    TagsDistinct (retireCell c s).px := by
  simp [retireCell, h]

@[simp] theorem retireCells_tagsDistinct (n : Nat) {s : State} (h : TagsDistinct s.px) :
    TagsDistinct (retireCells n s).px := by
  induction n generalizing s with
  | zero => exact h
  | succ n ih =>
    unfold retireCells
    split
    · exact ih (retireCell_tagsDistinct _ h)
    · exact h

@[simp] theorem beltAdvance_tagsDistinct {s : State} (h : TagsDistinct s.px) :
    TagsDistinct (beltAdvance s).px := by
  simp [beltAdvance, h]

@[simp] theorem infeedEvent_tagsDistinct (x : Position) {s : State} (h : TagsDistinct s.px) :
    TagsDistinct (infeedEvent x s).px := by
  simp [infeedEvent, h]

@[simp] theorem beltAdvances_tagsDistinct (n : Nat) {s : State} (h : TagsDistinct s.px) :
    TagsDistinct (beltAdvances n s).px := by
  induction n generalizing s with
  | zero => exact h
  | succ n ih => exact ih (beltAdvance_tagsDistinct h)

@[simp] theorem takeInfeedSample_tagsDistinct (x : Sample) {s : State} (h : TagsDistinct s.px) :
    TagsDistinct (takeInfeedSample x s).px := by
  unfold takeInfeedSample
  dsimp only
  (repeat' split) <;> simp [h]

@[simp] theorem takeBeltSample_tagsDistinct (x : Sample) {s : State} (h : TagsDistinct s.px) :
    TagsDistinct (takeBeltSample x s).px := by
  unfold takeBeltSample
  dsimp only
  split <;> simp [h]

@[simp] theorem takeEncoder_tagsDistinct (e : Encoder) (x : Sample) {s : State} (h : TagsDistinct s.px) :
    TagsDistinct (takeEncoder e x s).px := by
  unfold takeEncoder
  split
  · split <;> simp [h]
  · exact h

@[simp] theorem checkEncoder_tagsDistinct (e : Encoder) {s : State} (h : TagsDistinct s.px) :
    TagsDistinct (checkEncoder e s).px := by
  unfold checkEncoder
  split
  · simp [expireEncoder, h]
  · exact h

@[simp] theorem changeUnwind_tagsDistinct (u : Unwind) (new : UnwindState) (faults : Bool) {s : State} (h : TagsDistinct s.px) :
    TagsDistinct (changeUnwind u new faults s).px := by
  unfold changeUnwind
  dsimp only
  split <;> simp [h]

@[simp] theorem takeUnwindReport_tagsDistinct (u : Unwind) (r : UnwindReport) {s : State} (h : TagsDistinct s.px) :
    TagsDistinct (takeUnwindReport u r s).px := by
  unfold takeUnwindReport
  dsimp only
  (repeat' split) <;> simp [h]

@[simp] theorem takeUnwindStatus_tagsDistinct (u : Unwind) (x : Sample) {s : State} (h : TagsDistinct s.px) :
    TagsDistinct (takeUnwindStatus u x s).px := by
  unfold takeUnwindStatus
  (repeat' split) <;> simp [h]

@[simp] theorem checkSplice_tagsDistinct {s : State} (h : TagsDistinct s.px) :
    TagsDistinct (checkSplice s).px := by
  unfold checkSplice
  split <;> simp [h]

@[simp] theorem checkCut_tagsDistinct {s : State} (h : TagsDistinct s.px) :
    TagsDistinct (checkCut s).px := by
  unfold checkCut
  split <;> simp [h]

@[simp] theorem deliver_tagsDistinct (role : Role) (x : Sample) {s : State} (h : TagsDistinct s.px) :
    TagsDistinct (deliver role x s).px := by
  cases role <;> simp [deliver, h]

@[simp] theorem handSample_tagsDistinct (role : Role) (x : Sample) {s : State} (h : TagsDistinct s.px) :
    TagsDistinct (handSample role x s).px := by
  unfold handSample
  rcases whenOnline_cases x.time (deliver role x) s with e | e <;> rw [e] <;> simp [h]

/-! ### Table writes and requests -/

@[simp] theorem storeLine_tagsDistinct (r : LineRecord) {s : State} (h : TagsDistinct s.px) :
    TagsDistinct (storeLine r s).px := by
  simp [storeLine, h]

/-- A stored entry of any table keeps the tags distinct: PATTERN leaves the lookaside, LINE may bring admissions. -/
theorem takeEntry_tagsDistinct {t : Table} {index : Nat} {bs : List Byte} {s u : State} (h : TagsDistinct s.px)
    (hu : takeEntry t index bs s = .stored u) : TagsDistinct u.px := by
  cases t with
  | pattern => exact h.of_lookaside_eq (by obtain ⟨-, -, -, -, -, -, -, -, hl, -⟩ := takePattern_frame hu; exact hl)
  | nodeMap => obtain ⟨-, -, -, -, -, -, hp, -⟩ := takeNode_frame hu; rwa [hp]
  | classes => obtain ⟨-, -, -, -, -, hp, -⟩ := takeClass_frame hu; rwa [hp]
  | zones => obtain ⟨-, -, -, -, -, hp, -⟩ := takeZone_frame hu; rwa [hp]
  | line =>
    simp only [takeEntry, takeLine] at hu
    split at hu
    · cases hu
    · split at hu <;> cases hu
      exact storeLine_tagsDistinct _ h
  | orders => obtain ⟨-, -, -, -, -, -, -, hp, -⟩ := takeOrder_frame hu; rwa [hp]

/-- What every stored entry keeps, the entries of a frame keep (R200). -/
theorem takeEntries_keeps {P : State → Prop}
    (keeps : ∀ {t index bs s u}, P s → takeEntry t index bs s = .stored u → P u) (n : Nat) (w : OpenWrite)
    (bs : List Byte) {s : State} (h : P s) : P (takeEntries n w bs s).1 := by
  induction n generalizing w bs s with
  | zero => exact h
  | succ n ih =>
    unfold takeEntries
    split
    · exact h
    · split
      · exact h
      · split
        · exact h
        · rename_i u hu
          dsimp only
          split
          · exact keeps h hu
          · exact ih _ _ (keeps h hu)

/-- Answering a frame touches neither the translator nor the node map. -/
theorem takeFrame_px_nm (code : Nat) (rq : Request) (w : OpenWrite) (bs : List Byte) (s : State) :
    (takeFrame code rq w bs s).px = (takeEntries 3 w bs s).1.px ∧
      (takeFrame code rq w bs s).nm = (takeEntries 3 w bs s).1.nm := by
  unfold takeFrame
  split <;> rename_i ht <;> simp [ht]

@[simp] theorem takeFrame_tagsDistinct (code : Nat) (rq : Request) (w : OpenWrite) (bs : List Byte) {s : State}
    (h : TagsDistinct s.px) : TagsDistinct (takeFrame code rq w bs s).px := by
  rw [(takeFrame_px_nm code rq w bs s).1]
  exact takeEntries_keeps (P := fun u => TagsDistinct u.px) takeEntry_tagsDistinct 3 w bs h

@[simp] theorem serveWrite_tagsDistinct (rq : Request) {s : State} (h : TagsDistinct s.px) :
    TagsDistinct (serveWrite rq s).px := by
  unfold serveWrite
  (repeat' split) <;> simp [h]

@[simp] theorem serveContinue_tagsDistinct (rq : Request) {s : State} (h : TagsDistinct s.px) :
    TagsDistinct (serveContinue rq s).px := by
  unfold serveContinue
  (repeat' split) <;> simp [h]

@[simp] theorem serveStart_tagsDistinct (rq : Request) {s : State} (h : TagsDistinct s.px) :
    TagsDistinct (serveStart rq s).px := by
  unfold serveStart
  split <;> simp [startLine, h]

@[simp] theorem serveStop_tagsDistinct (rq : Request) {s : State} (h : TagsDistinct s.px) :
    TagsDistinct (serveStop rq s).px := by
  unfold serveStop
  split <;> simp [h]

@[simp] theorem serveRestart_tagsDistinct (rq : Request) {s : State} (h : TagsDistinct s.px) :
    TagsDistinct (serveRestart rq s).px := by
  unfold serveRestart
  split <;> simp [h]

@[simp] theorem serveRelease_tagsDistinct (rq : Request) {s : State} (h : TagsDistinct s.px) :
    TagsDistinct (serveRelease rq s).px := by
  unfold serveRelease
  split <;> simp [h]

@[simp] theorem serveAdmit_tagsDistinct (rq : Request) {s : State} (h : TagsDistinct s.px) :
    TagsDistinct (serveAdmit rq s).px := by
  unfold serveAdmit
  split <;> simp [h]

@[simp] theorem serveEnlist_tagsDistinct (rq : Request) {s : State} (h : TagsDistinct s.px) :
    TagsDistinct (serveEnlist rq s).px := by
  unfold serveEnlist enlistSlot
  (repeat' split) <;> simp [h]

@[simp] theorem serveWithdraw_tagsDistinct (rq : Request) {s : State} (h : TagsDistinct s.px) :
    TagsDistinct (serveWithdraw rq s).px := by
  unfold serveWithdraw withdrawSlot
  (repeat' split) <;> simp [h]

@[simp] theorem serveClearSlot_tagsDistinct (rq : Request) {s : State} (h : TagsDistinct s.px) :
    TagsDistinct (serveClearSlot rq s).px := by
  unfold serveClearSlot releaseSlot
  (repeat' split) <;> simp [h]

@[simp] theorem clearFault_tagsDistinct {s : State} (h : TagsDistinct s.px) :
    TagsDistinct (clearFault s).px := by
  unfold clearFault
  split <;> simp [h]

@[simp] theorem serveClearLine_tagsDistinct (rq : Request) {s : State} (h : TagsDistinct s.px) :
    TagsDistinct (serveClearLine rq s).px := by
  unfold serveClearLine
  split <;> simp [h]

@[simp] theorem serveClear_tagsDistinct (rq : Request) {s : State} (h : TagsDistinct s.px) :
    TagsDistinct (serveClear rq s).px := by
  unfold serveClear
  split <;> simp [h]

/-- A PURGE only makes entries invalid (R7). -/
theorem purgeLookaside_tagsDistinct (slot : Option (Fin 8)) {px : Translator} (h : TagsDistinct px) :
    TagsDistinct (purgeLookaside slot px) :=
  h.of_map _ rfl (fun k => by split <;> simp_all) (fun k => by split <;> rfl)

@[simp] theorem servePurge_tagsDistinct (rq : Request) {s : State} (h : TagsDistinct s.px) :
    TagsDistinct (servePurge rq s).px := by
  have hp := fun slot => purgeLookaside_tagsDistinct slot h
  unfold servePurge
  (repeat' split) <;> simp [answerPurge, h, hp]

/-- LINE RESET leaves no entry valid (R4). -/
theorem resetLookaside_invalid (px : Translator) (i : Fin 32) : (resetLookaside px).lookaside[i].valid = false := by
  simp [resetLookaside]

@[simp] theorem serveLineReset_tagsDistinct (rq : Request) {s : State} (h : TagsDistinct s.px) :
    TagsDistinct (serveLineReset rq s).px := by
  unfold serveLineReset
  split
  · simp [h]
  all_goals
    refine TagsDistinct.of_invalid fun i => ?_
    simpa [resetBlocks] using resetLookaside_invalid s.px i

/-- What every way of answering a request establishes, its answer has (R196, R198). -/
theorem answer_cases {P : State → Prop} {code : Nat} {lengthOk : Bool} {serve : Request → State → State} {rq : Request}
    {s : State} (busy : P (respond code rq .busy .none 0 [] s))
    (serves : P (serve rq (breakWrite rq.src .sequence s)))
    (malformed : P (refuse code rq .length (breakWrite rq.src .sequence s))) : P (answer code lengthOk serve rq s) := by
  unfold answer
  split
  · exact busy
  · dsimp only
    split
    · exact serves
    · exact malformed

/-- The same for a request that leaves its source's write open. -/
theorem answerKeeping_cases {P : State → Prop} {code : Nat} {lengthOk : Bool} {serve : Request → State → State}
    {rq : Request} {s : State} (busy : P (respond code rq .busy .none 0 [] s)) (serves : P (serve rq s))
    (malformed : P (refuse code rq .length s)) : P (answerKeeping code lengthOk serve rq s) := by
  unfold answerKeeping
  split
  · exact busy
  · split
    · exact serves
    · exact malformed

@[simp] theorem takeRequest_tagsDistinct (code : Byte) (rq : Request) {s : State} (h : TagsDistinct s.px) :
    TagsDistinct (takeRequest code rq s).px := by
  unfold takeRequest
  split
  case h_2 | h_19 =>
    exact answerKeeping_cases (P := fun u => TagsDistinct u.px) (by simp [h]) (by simp [h]) (by simp [h])
  case h_3 | h_20 => simp [h]
  all_goals exact answer_cases (P := fun u => TagsDistinct u.px) (by simp [h]) (by simp [h]) (by simp [h])

/-- What a request keeps when it is taken, it keeps when it is handed over or discarded (R180). -/
theorem handRequest_keeps {P : State → Prop} {take : Request → State → State} {rq : Request} {s : State} (h : P s)
    (clock : P (setClock rq.time s)) (taken : P (take rq (setClock rq.time s))) : P (handRequest take rq s) := by
  rcases handRequest_cases take rq s with e | e | e <;> rw [e] <;> assumption

@[simp] theorem handRequest_takeRequest_tagsDistinct (code : Byte) (rq : Request) {s : State} (h : TagsDistinct s.px) :
    TagsDistinct (handRequest (takeRequest code) rq s).px :=
  handRequest_keeps (P := fun u => TagsDistinct u.px) h (by simp [h]) (by simp [h])

/-! ### Frames received and steps -/

@[simp] theorem receive_tagsDistinct (burst : List Byte) (time : Clock) {s : State} (h : TagsDistinct s.px) :
    TagsDistinct (receive burst time s).px := by
  unfold receive disposeFrame takeFrameRequest inspectFrame
  (repeat' split) <;> simp [h]

/-- A request command is its request handed to MU under its code (R196). -/
theorem exec_of_asRequest {c : Instr} {code : Byte} {rq : Request} (h : c.asRequest = some (code, rq)) (s : State) :
    exec c s = .next (handRequest (takeRequest code) rq s) := by
  cases c <;> cases h <;> rfl

/-- A condition that the clock and every operation a command can hand on to keep, a command keeps. -/
theorem exec_keeps {P : State → Prop} (clock : ∀ time u, P u → P (setClock time u))
    (request : ∀ code rq u, P u → P (takeRequest code rq u)) (sample : ∀ role x u, P u → P (deliver role x u))
    (frame : ∀ burst time u, P u → P (receive burst time u)) (assert : ∀ u, P u → P (assertReset u))
    (release : ∀ address fast u, P u → P (releaseReset address fast u)) (clear : ∀ u, P u → P (endClear u))
    (port : ∀ u, P u → P (arbitrate u)) (writeTimer : ∀ u, P u → P (expireWrite u))
    (encoderTimer : ∀ e u, P u → P (checkEncoder e u)) (halfTimer : ∀ z k u, P u → P (checkHalf z k u))
    (spliceTimer : ∀ u, P u → P (checkSplice u)) (cutTimer : ∀ u, P u → P (checkCut u)) {c : Instr} {s t : State}
    (h : P s) (hs : exec c s = .next t) : P t := by
  have running (time : Clock) (f : State → State) (hf : ∀ u, P u → P (f u)) : P (whenRunning time f s) := by
    rcases whenRunning_cases time f s with e | e <;> rw [e]
    · exact h
    · exact hf _ (clock _ _ h)
  have handed (code : Byte) (rq : Request) : P (handRequest (takeRequest code) rq s) :=
    handRequest_keeps h (clock _ _ h) (request _ _ _ (clock _ _ h))
  have owned (role : Role) (x : Sample) : P (handSample role x s) := by
    unfold handSample
    rcases whenOnline_cases x.time (deliver role x) s with e | e <;> rw [e]
    · exact h
    · exact sample _ _ _ (clock _ _ h)
  cases c with
  | resetAssert => cases hs; exact assert _ h
  | resetRelease => cases hs; exact release _ _ _ h
  | patternClearDone => cases hs; exact running _ _ clear
  | frameReceived => cases hs; exact frame _ _ _ h
  | portFree => cases hs; exact running _ _ port
  | writeTimeout => cases hs; exact running _ _ writeTimer
  | encoderStale => cases hs; exact running _ _ (encoderTimer _)
  | halfExpiry => cases hs; exact running _ _ (halfTimer _ _)
  | spliceTimeout => cases hs; exact running _ _ spliceTimer
  | cutTimeout => cases hs; exact running _ _ cutTimer
  | encoderSample | probeSample | unwindStatusSample | unwindDiameterSample | splicerStatusSample
  | takeUpDiameterSample | takeUpStatusSample => cases hs; exact owned _ _
  | _ => cases hs; exact handed _ _

/-- A condition on the part alone that commands keep, a step keeps (assumption 1). -/
theorem step_keeps {P : State → Prop} (pending : ∀ q u, P u → P (u.withPending q))
    (command : ∀ c u v, P u → exec c u = .next v → P v) {s t : State} (h : P s) (hs : step s = .next t) : P t := by
  unfold step at hs
  split at hs
  · cases hs
    exact h
  · exact command _ _ _ (pending _ _ h) hs

/-- RESET_RELEASE leaves no lookaside entry valid (R4). -/
theorem hardReset_lookasideDistinct (address : BitVec 6) (fast : Bool) (mem : List Host.Cell) (pending : List Instr) :
    lookasideDistinct (hardReset address fast mem pending) :=
  TagsDistinct.of_invalid fun i => by simp [hardReset, LookEntry.reset]

theorem exec_tagsDistinct (c : Instr) (s t : State) (h : TagsDistinct s.px) (hs : exec c s = .next t) :
    TagsDistinct t.px := by
  have cleared (u : State) (hu : TagsDistinct u.px) : TagsDistinct (endClear u).px := by
    unfold endClear
    split
    · exact hu.of_lookaside_eq rfl
    · exact hu
  refine exec_keeps (P := fun u => TagsDistinct u.px) ?_ ?_ ?_ ?_ ?_ ?_ cleared ?_ ?_ ?_ ?_ ?_ ?_ h hs
  case refine_6 => exact fun address fast u _ => hardReset_lookasideDistinct address fast u.px.mem u.pending
  all_goals intros; simp_all [assertReset]

/-! ### The node map (R183, R184) -/

/-- `nodeMapDistinct`, of the map and the part's own address alone. -/
def MapDistinct (address : BitVec 6) (nm : Vector NodeEntry 64) : Prop :=
  (∀ i : Fin 64, nm[i].valid = true → nm[i].node ≠ 0 ∧ nm[i].node ≠ address ∧ nm[i].binds.isSome = true) ∧
    ∀ i j : Fin 64, i ≠ j → nm[i].valid = true → nm[j].valid = true →
      nm[i].binds ≠ nm[j].binds ∧ ¬(nm[i].node = nm[j].node ∧ nm[i].channel = nm[j].channel)

theorem nodeMapDistinct_iff (s : State) : nodeMapDistinct s ↔ MapDistinct s.rp.address s.nm := Iff.rfl

/-- An entry in range that clashes with no other valid entry may be stored (R184). -/
theorem MapDistinct.set {address : BitVec 6} {nm : Vector NodeEntry 64} (h : MapDistinct address nm) (index : Fin 64)
    (e : NodeEntry) (range : e.valid = true → e.node ≠ 0 ∧ e.node ≠ address ∧ e.binds.isSome = true)
    (clash : e.valid = true → ∀ i : Fin 64, i ≠ index → nm[i].valid = true →
      nm[i].binds ≠ e.binds ∧ ¬(nm[i].node = e.node ∧ nm[i].channel = e.channel)) :
    MapDistinct address (nm.set index e) := by
  obtain ⟨hr, hd⟩ := h
  have same : (nm.set index e)[index] = e := by simp
  have other (i : Fin 64) (hi : i ≠ index) : (nm.set index e)[i] = nm[i] := by
    have : (index : Nat) ≠ i := fun e => hi (Fin.ext e.symm)
    simp [this]
  constructor
  · intro i
    by_cases hi : i = index
    · subst hi
      rw [same]
      exact range
    · rw [other i hi]
      exact hr i
  · intro i j hij
    by_cases hi : i = index
    · subst hi
      rw [same, other j hij.symm]
      intro he hj
      obtain ⟨hb, hp⟩ := clash he j hij.symm hj
      exact ⟨hb.symm, fun ⟨hn, hc⟩ => hp ⟨hn.symm, hc.symm⟩⟩
    · rw [other i hi]
      by_cases hj : j = index
      · subst hj
        rw [same]
        exact fun hv he => clash he i hi hv
      · rw [other j hj]
        exact hd i j hij

/-- No other valid entry binds the role or the pair of an entry that does not clash (R184). -/
theorem not_nodeClashes {index : Fin 64} {e : NodeEntry} {s : State} (h : nodeClashes index e s = false) (i : Fin 64)
    (hi : i ≠ index) (hv : s.nm[i].valid = true) :
    s.nm[i].binds ≠ e.binds ∧ ¬(s.nm[i].node = e.node ∧ s.nm[i].channel = e.channel) := by
  have hn : (i : Nat) ≠ index := fun e => hi (Fin.ext e)
  have hc := List.any_eq_false.mp h i (List.mem_range.mpr i.isLt)
  simp only [Fin.getElem_fin] at hv
  simpa [hn, hv] using hc

theorem takeNode_mapDistinct {index : Fin 64} {bs : List Byte} {s u : State} (h : MapDistinct s.rp.address s.nm)
    (hu : takeNode index bs s = .stored u) : MapDistinct u.rp.address u.nm := by
  simp only [takeNode] at hu
  generalize NodeEntry.ofBytes bs = e at hu
  split at hu
  · cases hu
  · split at hu
    · cases hu
    · split at hu <;> cases hu
      rename_i range clash
      refine h.set index e (fun he => ?_) (fun he => not_nodeClashes ?_)
      · simp only [he, nodeOutOfRange, Bool.true_and, Bool.or_eq_true, decide_eq_true_eq, not_or] at range
        simpa [Option.isSome_iff_ne_none, and_assoc] using range
      · simpa [he] using clash

theorem takeEntry_mapDistinct {t : Table} {index : Nat} {bs : List Byte} {s u : State}
    (h : MapDistinct s.rp.address s.nm) (hu : takeEntry t index bs s = .stored u) : MapDistinct u.rp.address u.nm := by
  cases t with
  | nodeMap => exact takeNode_mapDistinct h hu
  | pattern => obtain ⟨-, -, hr, -, -, hn, -⟩ := takePattern_frame hu; rwa [hr, hn]
  | classes => obtain ⟨-, -, hr, hn, -⟩ := takeClass_frame hu; rwa [hr, hn]
  | zones => obtain ⟨-, -, hr, hn, -⟩ := takeZone_frame hu; rwa [hr, hn]
  | line => obtain ⟨-, -, hr, hn, -⟩ := takeLine_frame hu; rwa [hr, hn]
  | orders => obtain ⟨-, -, hr, -, -, hn, -⟩ := takeOrder_frame hu; rwa [hr, hn]

@[simp] theorem takeFrame_mapDistinct (code : Nat) (rq : Request) (w : OpenWrite) (bs : List Byte) {s : State}
    (h : MapDistinct s.rp.address s.nm) : MapDistinct s.rp.address (takeFrame code rq w bs s).nm := by
  have he := takeEntries_keeps (P := fun u => MapDistinct u.rp.address u.nm) takeEntry_mapDistinct 3 w bs h
  rw [(takeFrame_px_nm code rq w bs s).2]
  simpa using he

@[simp] theorem serveWrite_mapDistinct (rq : Request) {s : State} (h : MapDistinct s.rp.address s.nm) :
    MapDistinct s.rp.address (serveWrite rq s).nm := by
  unfold serveWrite
  (repeat' split) <;> simp [h]

@[simp] theorem serveContinue_mapDistinct (rq : Request) {s : State} (h : MapDistinct s.rp.address s.nm) :
    MapDistinct s.rp.address (serveContinue rq s).nm := by
  unfold serveContinue
  (repeat' split) <;> simp [h]

/-- WRITE and CONTINUE alone reach the node map. -/
@[simp] theorem takeRequest_mapDistinct (code : Byte) (rq : Request) {s : State} (h : MapDistinct s.rp.address s.nm) :
    MapDistinct s.rp.address (takeRequest code rq s).nm := by
  have hb : MapDistinct (breakWrite rq.src .sequence s).rp.address (breakWrite rq.src .sequence s).nm := by simpa using h
  have hw := serveWrite_mapDistinct rq hb
  unfold takeRequest
  split
  case h_2 | h_19 =>
    exact answerKeeping_cases (P := fun u => MapDistinct s.rp.address u.nm) (by simp [h]) (by simp [h]) (by simp [h])
  case h_3 | h_20 => simp [h]
  case h_1 =>
    exact answer_cases (P := fun u => MapDistinct s.rp.address u.nm) (by simp [h]) (by simpa using hw) (by simp [h])
  all_goals
    exact answer_cases (P := fun u => MapDistinct s.rp.address u.nm) (by simp [h]) (by simp [h]) (by simp [h])

theorem receive_mapDistinct (burst : List Byte) (time : Clock) {s : State} (h : MapDistinct s.rp.address s.nm) :
    MapDistinct s.rp.address (receive burst time s).nm := by
  have taken (code : Byte) (rq : Request) : MapDistinct s.rp.address (handRequest (takeRequest code) rq (setClock time s)).nm :=
    handRequest_keeps (P := fun u => MapDistinct s.rp.address u.nm) (by simp [h]) (by simp [h])
      (by simpa using takeRequest_mapDistinct code rq (s := setClock rq.time (setClock time s)) (by simpa using h))
  unfold receive disposeFrame takeFrameRequest
  (repeat' split) <;> simp [h, taken]

/-- RESET_RELEASE leaves no node map entry valid (R183). -/
theorem hardReset_nodeMapDistinct (address : BitVec 6) (fast : Bool) (mem : List Host.Cell) (pending : List Instr) :
    nodeMapDistinct (hardReset address fast mem pending) := by
  constructor <;> simp [hardReset, NodeEntry.reset]

theorem exec_mapDistinct (c : Instr) (s t : State) (h : MapDistinct s.rp.address s.nm) (hs : exec c s = .next t) :
    MapDistinct t.rp.address t.nm := by
  have cleared (u : State) (hu : MapDistinct u.rp.address u.nm) : MapDistinct (endClear u).rp.address (endClear u).nm := by
    unfold endClear
    split <;> exact hu
  refine exec_keeps (P := fun u => MapDistinct u.rp.address u.nm) ?_ ?_ ?_ ?_ ?_ ?_ cleared ?_ ?_ ?_ ?_ ?_ ?_ h hs
  case refine_4 => exact fun burst time u hu => by simpa using receive_mapDistinct burst time hu
  case refine_6 => exact fun address fast u _ => hardReset_nodeMapDistinct address fast u.px.mem u.pending
  all_goals intros; simp_all [assertReset]

end Sys2Proof.Machine
end

section
open Sys2Proof Sys2Proof.Machine

/-- Settles O57: both conditions speak of one block each, and every operation a command hands on to keeps them; a fetch
installs an index only when no valid entry holds it, and a NODE MAP entry is stored only when it clashes with none. -/
theorem mapAndLookasideStayDistinct : Obligations.MapAndLookasideStayDistinct :=
  ⟨fun _ _ h hs => step_keeps (P := nodeMapDistinct) (fun _ _ hu => hu) exec_mapDistinct h hs,
    fun _ _ h hs => step_keeps (P := lookasideDistinct) (fun _ _ hu => hu) exec_tagsDistinct h hs⟩

end

section
namespace Sys2Proof.Machine

/-! ### Requests that reach MU (R180, R196, R198) -/

@[simp] theorem ownsWrite_setClock (src : Byte) (t : Clock) (s : State) :
    ownsWrite src (setClock t s) = ownsWrite src s := rfl

/-- A write that is not the source's own stays open. -/
theorem breakWrite_of_not_owns {src : Byte} {s : State} (h : ownsWrite src s = false) (reason : Reason) :
    breakWrite src reason s = s := by
  unfold breakWrite
  unfold ownsWrite at h
  cases hw : s.mu.openWrite with
  | none => rfl
  | some w => simp_all

/-- The source's own write is closed (R198). -/
theorem breakWrite_of_owns {src : Byte} {s : State} {w : OpenWrite} (hw : s.mu.openWrite = some w) (hs : w.source = src)
    (reason : Reason) : breakWrite src reason s = queueClosing w reason s := by
  simp [breakWrite, hw, hs]

/-- A request from a source the part can answer is taken by its code at its arrival time. -/
theorem exec_of_answerable {c : Instr} {code : Byte} {rq : Request} {s : State} (hc : c.asRequest = some (code, rq))
    (hon : online s = true) (ha : answerable rq = true) :
    exec c s = .next (takeRequest code rq (setClock rq.time s)) := by
  rw [exec_of_asRequest hc]
  simp [handRequest, whenOnline, hon, ha]

/-- A request taken by the common checks and served by `serve`, from a source with no write of its own open: served when
its LEN fits, refused LENGTH otherwise. -/
theorem exec_of_served {c : Instr} {code : Byte} {rq : Request} {s : State} {n : Nat} {fits : Bool}
    {serve : Request → State → State} (h : served rq s) (hc : c.asRequest = some (code, rq))
    (ht : ∀ u, takeRequest code rq u = answer n fits serve rq u) :
    exec c s = .next (if fits then serve rq (setClock rq.time s) else refuse n rq .length (setClock rq.time s)) := by
  obtain ⟨⟨hon, ha, hclear⟩, hown⟩ := h
  rw [exec_of_answerable hc hon ha, ht]
  simp [answer, hclear, breakWrite_of_not_owns, hown]

/-- The same for a request whose LEN fits. -/
theorem exec_serves {c : Instr} {code : Byte} {rq : Request} {s : State} {n : Nat} {fits : Bool}
    {serve : Request → State → State} (h : served rq s) (hc : c.asRequest = some (code, rq)) (hf : fits = true)
    (ht : ∀ u, takeRequest code rq u = answer n fits serve rq u) : exec c s = .next (serve rq (setClock rq.time s)) := by
  rw [exec_of_served h hc ht, if_pos hf]

/-- The same for a request of the wrong LEN. -/
theorem exec_refuses_length {c : Instr} {code : Byte} {rq : Request} {s : State} {n : Nat} {fits : Bool}
    {serve : Request → State → State} (h : served rq s) (hc : c.asRequest = some (code, rq)) (hf : fits = false)
    (ht : ∀ u, takeRequest code rq u = answer n fits serve rq u) :
    exec c s = .next (refuse n rq .length (setClock rq.time s)) := by
  rw [exec_of_served h hc ht, hf]
  rfl

/-- During the pattern-memory clear every request is answered BUSY (R1, R196). -/
theorem takeRequest_of_clearing (code : Byte) (rq : Request) {s : State} (h : s.px.clearing = true) :
    takeRequest code rq s = respond code.toNat rq .busy .none 0 [] s := by
  unfold takeRequest
  split <;> rename_i hcode <;> simp [answer, answerKeeping, answerClose, answerUnknown, h, hcode]

/-- A code that names no request (R196). -/
theorem takeRequest_of_unknown {code : Byte} (h : ¬(1 ≤ code.toNat ∧ code.toNat ≤ 19)) (rq : Request) (s : State) :
    takeRequest code rq s = answerUnknown code rq s := by
  unfold takeRequest
  split
  case h_20 => rfl
  all_goals omega

end Sys2Proof.Machine
end

section
open Sys2Proof Sys2Proof.Machine

/-- Settles O11: the checks of R196 come before any request's own rule, so each clause is one branch of `answer`,
`answerKeeping` or `answerClose`. -/
theorem busyAndMalformedRequestsChangeNothing : Obligations.BusyAndMalformedRequestsChangeNothing := by
  refine ⟨fun c code rq s hc hon ha hclear => ?_, fun rq s h => ⟨fun code hcode => ?_, fun hl => ?_, fun hl => ?_,
    fun hl => ?_, fun hl => ?_, fun c code hmem hl => ?_, fun c code hmem hl => ?_⟩, fun rq s h hargs => ?_⟩
  · rw [exec_of_answerable hc hon ha, takeRequest_of_clearing code rq (s := setClock rq.time s) hclear]
  · obtain ⟨⟨hon, ha, hclear⟩, hown⟩ := h
    rw [exec_of_answerable (code := code) rfl hon ha, takeRequest_of_unknown hcode]
    simp [answerUnknown, hclear, breakWrite_of_not_owns, hown]
  · exact exec_refuses_length h rfl (by simpa using hl) fun _ => rfl
  · exact exec_refuses_length h rfl (by simpa using hl) fun _ => rfl
  · exact exec_refuses_length h rfl (by simpa using hl) fun _ => rfl
  · exact exec_refuses_length h rfl (by simpa using hl) fun _ => rfl
  · simp only [List.mem_cons, Prod.mk.injEq, List.not_mem_nil, or_false] at hmem
    rcases hmem with ⟨rfl, rfl⟩ | ⟨rfl, rfl⟩ | ⟨rfl, rfl⟩ | ⟨rfl, rfl⟩ | ⟨rfl, rfl⟩ | ⟨rfl, rfl⟩
    case inr.inr.inr.inr.inr =>
      obtain ⟨⟨hon, ha, hclear⟩, -⟩ := h
      rw [exec_of_answerable (code := 19) rfl hon ha]
      simp [takeRequest, answerKeeping, hclear, hl]
    all_goals exact exec_refuses_length h rfl (by simpa using hl) fun _ => rfl
  · simp only [List.mem_cons, Prod.mk.injEq, List.not_mem_nil, or_false] at hmem
    rcases hmem with ⟨rfl, rfl⟩ | ⟨rfl, rfl⟩ | ⟨rfl, rfl⟩ | ⟨rfl, rfl⟩ | ⟨rfl, rfl⟩ | ⟨rfl, rfl⟩ | ⟨rfl, rfl⟩ | ⟨rfl, rfl⟩
    all_goals exact exec_refuses_length h rfl (by simpa using hl) fun _ => rfl
  · obtain ⟨hon, ha, hclear⟩ := h
    have close : exec (.closeWrite rq) s = .next (refuse 3 rq .length (breakWrite rq.src .none (setClock rq.time s))) := by
      rw [exec_of_answerable (code := 3) rfl hon ha]
      simp [takeRequest, answerClose, hclear, hargs]
    refine ⟨fun hother => ?_, fun w hw hs => ?_, ?_⟩
    · rw [close, breakWrite_of_not_owns]
      cases hw : s.mu.openWrite with
      | none => simp [ownsWrite, hw]
      | some w => simpa [ownsWrite, hw] using hother w hw
    · rw [close, breakWrite_of_owns (s := setClock rq.time s) hw hs]
      rfl
    · rw [exec_of_answerable (code := 19) rfl hon ha]
      simp [takeRequest, answerKeeping, hclear, hargs]

end

section
open Sys2Proof Sys2Proof.Machine

/-- Settles O53: every condition evaluates at the reset state, where nothing is valid, queued, engaged or present. -/
theorem resetMeetsEveryCondition : Obligations.ResetMeetsEveryCondition := by
  refine ⟨?writes, ?queues, ?belt, ?unwinds, ?splicer, hardReset_nodeMapDistinct 1 false [] [],
    hardReset_lookasideDistinct 1 false [] [], ?runList,
    ?pieceIds, ?sequencer, ?cells, ?valves, ?takeUp, ?line, ?locks, ?filler⟩
  case writes => exact ⟨Memory.wf_nil, by simp [State.reset, hardReset]⟩
  case queues => decide
  case belt => exact ⟨by decide, rfl⟩
  case unwinds => decide
  case splicer => decide
  case runList => decide
  case pieceIds => decide
  case sequencer => decide
  case cells => decide
  case valves =>
    intro z
    simp [State.reset, hardReset, Zone.reset, HalfRecord.reset]
  case takeUp => decide
  case line => decide
  case locks =>
    intro p
    simp [State.reset, hardReset, Zone.reset]
  case filler => decide

end

section
namespace Sys2Proof.Machine

/-! ### A fetch and a PURGE (R5, R6, R7) -/

/-- What a fetch makes of the content it obtained: the content, or INVALID before TYPE (R5). -/
def judgedContent (kind : EntryKind) (content : List Byte) : Except WalkFault (List Byte) :=
  match contentFault content kind with
  | some f => .error f
  | none => .ok content

theorem judgedContent_eq (kind : EntryKind) (content : List Byte) :
    judgedContent kind content =
      if bitAt content 0 7 = false then .error .invalid
      else if entryKind content ≠ some kind then .error .type else .ok content := by
  unfold judgedContent contentFault entryValid
  cases bitAt content 0 7
  · rfl
  · by_cases hk : entryKind content = some kind <;> simp [hk]

/-- The only valid entry of an index is the one that is hit. -/
theorem lookasideHit_of_unique {px : Translator} {index : Nat} {k : Fin 32} (hv : px.lookaside[k].valid = true)
    (ht : px.lookaside[k].tag = index)
    (unique : ∀ j : Fin 32, px.lookaside[j].valid = true → px.lookaside[j].tag = index → j = k) :
    lookasideHit px index = some px.lookaside[k] := by
  cases hit : lookasideHit px index with
  | none => exact absurd ht ((lookasideHit_eq_none_iff px index).mp hit k hv)
  | some e =>
    have holds := List.find?_some hit
    simp only [Bool.and_eq_true, decide_eq_true_eq] at holds
    obtain ⟨j, hj, rfl⟩ := Vector.mem_iff_getElem.mp (Vector.mem_toList_iff.mp (List.mem_of_find?_eq_some hit))
    have := unique ⟨j, hj⟩ holds.1 holds.2
    subst this
    rfl

/-- A hit uses the copy and changes nothing (R5). -/
theorem fetch_of_hit {px : Translator} {index : Nat} {e : LookEntry} (hit : lookasideHit px index = some e)
    (kind : EntryKind) (slot : Fin 8) : fetch px index kind slot = (px, judgedContent kind e.copy) := by
  unfold fetch judgedContent
  cases hc : contentFault e.copy kind <;> simp [hit, hc]

/-- A miss whose content faults installs nothing (R6). -/
theorem fetch_of_miss_fault {px : Translator} {index : Nat} {kind : EntryKind} (miss : lookasideHit px index = none)
    (bad : judgedContent kind (readEntry px.mem index) ≠ .ok (readEntry px.mem index)) (slot : Fin 8) :
    fetch px index kind slot = (px, judgedContent kind (readEntry px.mem index)) := by
  unfold fetch
  unfold judgedContent at bad ⊢
  cases hc : contentFault (readEntry px.mem index) kind with
  | none => simp [hc] at bad
  | some f => simp [miss, hc]

/-- A miss whose content is good installs it (R6). -/
theorem fetch_of_miss {px : Translator} {index : Nat} {kind : EntryKind} (miss : lookasideHit px index = none)
    (good : judgedContent kind (readEntry px.mem index) = .ok (readEntry px.mem index)) (slot : Fin 8) :
    fetch px index kind slot =
      (install px index slot (readEntry px.mem index), .ok (readEntry px.mem index)) := by
  unfold fetch
  unfold judgedContent at good
  cases hc : contentFault (readEntry px.mem index) kind with
  | none => simp [miss, hc]
  | some f => simp [hc] at good

/-- The pointer goes from 31 back to 0 (R6). -/
theorem install_pointer (px : Translator) (index : Nat) (slot : Fin 8) (copy : List Byte) :
    (install px index slot copy).pointer.val = (px.pointer.val + 1) % 32 := by
  simp [install, Fin.val_add]

/-- The entries a PURGE of the target byte `n` reaches: 0xFF is ALL, any other byte a slot number (R7). -/
def purgedBy (n : Nat) (e : LookEntry) : Bool := e.valid && (decide (n = 255) || decide (e.slot.val = n))

theorem purged_none : purged none = purgedBy 255 := by
  funext e
  simp [purged, purgedBy]

theorem purged_some {n : Nat} (h : n < 8) : purged (some ⟨n, h⟩) = purgedBy n := by
  funext e
  have hn : n ≠ 255 := by omega
  simp [purged, purgedBy, hn, Fin.ext_iff]

/-- A PURGE of a target that names ALL or a slot (R7). -/
theorem servePurge_of_target {rq : Request} (h : field rq.args 0 1 = 255 ∨ field rq.args 0 1 < 8) (s : State) :
    servePurge rq s =
      respondDone 16 rq (s.px.lookaside.toList.filter (purgedBy (field rq.args 0 1))).length []
        { s with
          px.lookaside := s.px.lookaside.map fun e =>
            if purgedBy (field rq.args 0 1) e then { e with valid := false } else e } := by
  unfold servePurge
  by_cases hall : field rq.args 0 1 = 255
  · simp [hall, answerPurge, purgeCount, purgeLookaside, purged_none]
  · have hslot : field rq.args 0 1 < 8 := by omega
    simp [hall, slotOfByte, hslot, answerPurge, purgeCount, purgeLookaside, purged_some]

/-- A PURGE of a target that names nothing (R7). -/
theorem servePurge_of_no_target {rq : Request} (h : 8 ≤ field rq.args 0 1) (hall : field rq.args 0 1 ≠ 255) (s : State) :
    servePurge rq s = refuse 16 rq .range s := by
  have hslot : ¬field rq.args 0 1 < 8 := by omega
  simp [servePurge, hall, slotOfByte, hslot]

end Sys2Proof.Machine
end

section
open Sys2Proof Sys2Proof.Machine

/-- Settles O38, from what a PURGE does by its target byte and what a fetch does on a hit and on a miss. -/
theorem purgeInvalidatesAndCounts : Obligations.PurgeInvalidatesAndCounts := by
  refine ⟨fun rq s h hl => ?_, fun px index kind slot => ?_⟩
  · have serves : exec (.purge rq) s = .next (servePurge rq (setClock rq.time s)) :=
      exec_serves h rfl (by simpa using hl) fun _ => rfl
    refine ⟨fun target => ?_, fun h8 hall => ?_⟩
    · rw [serves, servePurge_of_target target]
      rfl
    · rw [serves, servePurge_of_no_target h8 hall]
  · intro holds judged
    have judged_eq : judged = judgedContent kind := funext fun content => (judgedContent_eq kind content).symm
    refine ⟨fun k ⟨hv, ht⟩ unique => ?_, fun none_holds => ?_⟩
    · rw [judged_eq, fetch_of_hit (lookasideHit_of_unique hv ht fun j hj ht => unique j ⟨hj, ht⟩)]
    · have miss : lookasideHit px index = none :=
        (lookasideHit_eq_none_iff px index).mpr fun k hv ht => none_holds k ⟨hv, ht⟩
      rw [judged_eq]
      exact ⟨fun bad => fetch_of_miss_fault miss bad slot, fun good =>
        ⟨_, fetch_of_miss miss good slot, rfl, rfl, install_pointer .., install_lookaside_pointer ..,
          fun k hk => install_lookaside_ne hk ..⟩⟩

end

section
namespace Sys2Proof.Machine

/-! ### WRITE (R199, R200) -/

theorem setOpenWrite_of_eq {w : Option OpenWrite} {s : State} (h : s.mu.openWrite = w) : setOpenWrite w s = s := by
  subst h
  rfl

/-- The codes of the written tables are 1 to 6 (section 11.1). -/
theorem Table.ofCode_eq_none {n : Nat} (h : ¬(1 ≤ n ∧ n ≤ 6)) : Table.ofCode n = none := by
  unfold Table.ofCode
  split
  case h_7 => rfl
  all_goals omega

/-- A WRITE while a write is open, which is then another source's (R199). -/
theorem serveWrite_of_open {s : State} (h : s.mu.openWrite.isSome = true) (rq : Request) :
    serveWrite rq s = respond 1 rq .busy .none 0 [] s := by
  simp [serveWrite, h]

/-- A WRITE whose table code names none (R199). -/
theorem serveWrite_of_no_table {rq : Request} {s : State} (h : s.mu.openWrite = none)
    (ht : ¬(1 ≤ field rq.args 0 1 ∧ field rq.args 0 1 ≤ 6)) : serveWrite rq s = refuse 1 rq .range s := by
  simp [serveWrite, h, Table.ofCode_eq_none ht]

/-- A WRITE of no entries (R199). -/
theorem serveWrite_of_no_count {rq : Request} {s : State} (h : s.mu.openWrite = none) (hc : field rq.args 3 1 = 0) :
    serveWrite rq s = refuse 1 rq .range s := by
  cases ht : Table.ofCode (field rq.args 0 1) <;> simp [serveWrite, h, ht, hc]

/-- A WRITE that reaches beyond its table (R199). -/
theorem serveWrite_of_beyond {rq : Request} {s : State} {t : Table} (h : s.mu.openWrite = none)
    (ht : Table.ofCode (field rq.args 0 1) = some t) (hr : t.records < field rq.args 1 2 + field rq.args 3 1) :
    serveWrite rq s = refuse 1 rq .range s := by
  simp [serveWrite, h, ht, hr]

/-- A WRITE whose table, count and range fit has its entries taken (R199, R200). -/
theorem serveWrite_of_fits {rq : Request} {s : State} {t : Table} (h : s.mu.openWrite = none)
    (ht : Table.ofCode (field rq.args 0 1) = some t) (hc : 1 ≤ field rq.args 3 1)
    (hr : field rq.args 1 2 + field rq.args 3 1 ≤ t.records) :
    serveWrite rq s = takeFrame 1 rq (openWriteFor rq t) (rq.args.drop 4) s := by
  have hcount : field rq.args 3 1 ≠ 0 := by omega
  simp [serveWrite, h, ht, hcount, Nat.not_lt.mpr hr]

/-- A frame without entries leaves its write open with nothing stored (R200). -/
theorem takeFrame_nil (code : Nat) (rq : Request) (w : OpenWrite) (s : State) :
    takeFrame code rq w [] s =
      respond code rq .done .none w.remaining w.data (setOpenWrite (some { w with lastFrame := rq.time }) s) := rfl

/-- A frame with the last PATTERN entry of its write, whole and alone: stored, and the write closed DONE (R2, R200). -/
theorem takeFrame_last_pattern (code : Nat) (rq : Request) {w : OpenWrite} (ht : w.table = .pattern)
    (hw : w.requested = w.stored + 1) {bs : List Byte} (hb : bs.length = 16) (s : State) :
    takeFrame code rq w bs s =
      respond code rq .done .none 0 (beBytes 2 (w.pointer + 1) ++ byte (w.stored + 1))
        (setOpenWrite none { s with px.mem := writeEntry s.px.mem w.pointer (cleanEntry bs) }) := by
  have hne : bs ≠ [] := by
    rintro rfl
    cases hb
  have whole : bs.take 16 = bs := List.take_of_length_le (Nat.le_of_eq hb)
  simp [takeFrame, takeEntries, takeEntry, takePattern, OpenWrite.remaining, OpenWrite.data, Table.size, ht, hw, hb, hne,
    whole]

end Sys2Proof.Machine
end

section
open Sys2Proof Sys2Proof.Machine

/-- Settles O14: each clause is one branch of `serveWrite`, and a stored entry reads back by the laws of pattern memory. -/
theorem writeStoresOpensOrIsRefused : Obligations.WriteStoresOpensOrIsRefused := by
  have serves (rq : Request) (s : State) (h : served rq s) (hl : 4 ≤ rq.args.length) :
      exec (.write rq) s = .next (serveWrite rq (setClock rq.time s)) :=
    exec_serves h rfl (by simpa using hl) fun _ => rfl
  refine ⟨fun rq s h hl htable hcount hindex hopen => ?_, fun rq s h hl hopen => ?_, fun rq s h hopen hl =>
    ⟨fun t ht hc hr => ?_, fun ht => ?_, fun hc => ?_, fun t ht hr => ?_⟩⟩
  · have hentry : (rq.args.drop 4).length = 16 := by simp [hl]
    refine ⟨?_, fun hwf => readEntry_writeEntry hwf hindex (cleanEntry_length hentry),
      fun j hj => readEntry_writeEntry_ne _ hj _⟩
    have fits : field rq.args 1 2 + field rq.args 3 1 ≤ Table.pattern.records := by
      simp only [Table.records]
      omega
    rw [serves rq s h (by omega), serveWrite_of_fits (s := setClock rq.time s) (t := .pattern) hopen (by rw [htable]; rfl) (by omega) fits,
      takeFrame_last_pattern 1 rq rfl (by simp [openWriteFor, hcount]) hentry, setOpenWrite_of_eq (by exact hopen)]
    rfl
  · rw [serves rq s h hl, serveWrite_of_open (s := setClock rq.time s) hopen]
  · have opens := serveWrite_of_fits (s := setClock rq.time s) hopen ht hc hr
    refine ⟨by rw [serves rq s h hl, opens]; rfl, fun h4 => ?_⟩
    have none_left : rq.args.drop 4 = [] := List.drop_eq_nil_of_le (by omega)
    rw [serves rq s h hl, opens, none_left, takeFrame_nil]
    rfl
  · rw [serves rq s h hl, serveWrite_of_no_table (s := setClock rq.time s) hopen ht]
  · rw [serves rq s h hl, serveWrite_of_no_count (s := setClock rq.time s) hopen hc]
  · rw [serves rq s h hl, serveWrite_of_beyond (s := setClock rq.time s) hopen ht hr]

end

section
namespace Sys2Proof.Machine

/-! ### The governor at rest, and the REPORT queue -/

/-- A recompute that does not move the belt command changes the limits of SG alone (R119, R127). -/
theorem recompute_of_rest {s : State} (hl : s.lc.line = .stopped) (hb : s.sg.belt = 0) :
    recompute s = { s with sg := limitsOf s } := by
  simp [recompute, hl, heatShort, raiseIf, beltCommand, commandBelt, hb]

/-- With no piece in the queue none governs (R122). -/
theorem limitsOf_governing_of_nil {s : State} (h : s.pq.pieces = []) : (limitsOf s).governing = none := by
  simp [limitsOf, governingPiece, population, h]

/-- What a frame placed makes of the queue (R190). -/
theorem placeReport_report (r : Report) (s : State) :
    (placeReport r s).report =
      if s.report.length < 16 then s.report ++ [r]
      else if flagHeld .reportDropped s then appendReport r s.report
      else if flagEnabled .reportDropped s then
        appendReport (.event .reportDropped (s.mu.flags ||| flagBit .reportDropped)) (appendReport r s.report)
      else appendReport r s.report := by
  have henabled : flagEnabled .reportDropped (setFlag .reportDropped (pushReport r s)) = flagEnabled .reportDropped s := rfl
  by_cases hl : s.report.length < 16
  · simp [placeReport, appendReport, Config.reportLimit, hl]
  · by_cases hf : flagHeld .reportDropped s = true
    · simp [placeReport, Config.reportLimit, hl, hf]
    · by_cases he : flagEnabled .reportDropped s = true <;> simp [placeReport, Config.reportLimit, henabled, hl, hf, he]

/-- What a frame placed makes of the queue depends on the queue, the flags and the enables (R190). -/
theorem placeReport_report_congr {s t : State} (hr : s.report = t.report) (hf : s.mu.flags = t.mu.flags)
    (he : s.lc.record.enables = t.lc.record.enables) (r : Report) : (placeReport r s).report = (placeReport r t).report := by
  have hheld : flagHeld .reportDropped s = flagHeld .reportDropped t := by simp only [flagHeld, hf]
  have henabled : flagEnabled .reportDropped s = flagEnabled .reportDropped t := by simp only [flagEnabled, he]
  rw [placeReport_report, placeReport_report, hr, hf, hheld, henabled]

/-- A frame placed in a queue with room (R190). -/
theorem placeReport_report_of_room {s : State} (h : s.report.length < 16) (r : Report) :
    (placeReport r s).report = s.report ++ [r] := by
  rw [placeReport_report, if_pos h]

/-! ### The ACT queue -/

/-- Another slot's waiting frames stand when a frame is placed (R187). -/
theorem mem_placeAct_iff_of_ne {role : ActRole} {e : ActEntry} (h : e.role ≠ role) (cmd : ActCommand) (s : State) :
    e ∈ (placeAct role cmd s).act.entries ↔ e ∈ s.act.entries := by
  have hf := placeAct_filter_ne h cmd s
  have filtered (l : List ActEntry) : e ∈ (l.filter fun x => decide (x.role = e.role)) ↔ e ∈ l := by simp
  rw [← filtered, hf, filtered]

/-- The slots of the valves are not abandoned (R189). -/
theorem abandonActs_filter_valve (q : ActQueue) (z : Fin 8) (h : Half) :
    ((abandonActs q).entries.filter fun e => decide (e.role = .valve z h)) =
      q.entries.filter fun e => decide (e.role = .valve z h) := by
  simp only [abandonActs, List.filter_filter]
  congr 1
  funext e
  by_cases he : e.role = .valve z h <;> simp [he, abandonsAct]

/-! ### LINE RESET (R208) -/

/-- The ACT queue after LINE RESET: the abandoned slots emptied, then SPEED 0 for the belt drive and the infeed drive
(R178, R189). -/
def resetActs (s : State) : State :=
  placeAct .infeedDrive (.speed 0) (placeAct .beltDrive (.speed 0) (resetBlocks s))

@[simp] theorem resetActs_fields (s : State) :
    (resetActs s).pending = s.pending ∧ (resetActs s).clock = s.clock ∧ (resetActs s).rp = s.rp ∧
    (resetActs s).report = s.report ∧ (resetActs s).nm = s.nm ∧ (resetActs s).mu = s.mu ∧
    (resetActs s).px = resetLookaside s.px ∧ (resetActs s).pq = resetQueue s.pq ∧ (resetActs s).fs = resetFold s.fs ∧
    (resetActs s).pt = s.pt ∧ (resetActs s).cl = [] ∧ (resetActs s).zr = s.zr ∧ (resetActs s).da = s.da ∧
    (resetActs s).sg = resetGovernor s.sg ∧ (resetActs s).sc = resetSplice s.sc ∧ (resetActs s).tc = resetTakeUp s.tc ∧
    (resetActs s).lc = s.lc := by
  simp [resetActs, resetBlocks]

/-- After LINE RESET the line is at rest, so the governor's recompute moves nothing. -/
theorem resetLine_resetBlocks (s : State) :
    resetLine (resetBlocks s) =
      { resetActs s with
        lc := { s.lc with line := .stopped, restCount := 0 }
        sg := limitsOf { resetActs s with lc := { s.lc with line := .stopped, restCount := 0 } } } := by
  have hlc : (resetActs s).lc = s.lc := by simp
  unfold resetLine
  dsimp only
  rw [recompute_of_rest rfl (by simp [resetGovernor, resetBlocks])]
  simp only [resetActs] at hlc ⊢
  simp only [hlc]

/-- What waits in a slot that LINE RESET abandons: nothing (R189). -/
theorem resetActs_abandoned {s : State} {e : ActEntry} (he : e ∈ (resetActs s).act.entries) : abandonsAct e.role = false := by
  by_cases hi : e.role = .infeedDrive
  · rw [hi]; rfl
  · by_cases hb : e.role = .beltDrive
    · rw [hb]; rfl
    · rw [resetActs, mem_placeAct_iff_of_ne hi, mem_placeAct_iff_of_ne hb] at he
      simpa using (List.mem_filter.mp he).2

/-- SPEED 0 waits for the belt drive (R178). -/
theorem resetActs_beltDrive (s : State) : ∃ e ∈ (resetActs s).act.entries, e.role = .beltDrive ∧ e.command = .speed 0 := by
  obtain ⟨e, he, hr, hc⟩ := placeAct_waits .beltDrive (.speed 0) (resetBlocks s)
  exact ⟨e, (mem_placeAct_iff_of_ne (by simp [hr]) _ _).mpr he, hr, hc⟩

/-- SPEED 0 waits for the infeed drive (R178). -/
theorem resetActs_infeedDrive (s : State) :
    ∃ e ∈ (resetActs s).act.entries, e.role = .infeedDrive ∧ e.command = .speed 0 := placeAct_waits ..

/-- The frames for the valves stand (R189). -/
theorem resetActs_filter_valve (s : State) (z : Fin 8) (h : Half) :
    ((resetActs s).act.entries.filter fun e => decide (e.role = .valve z h)) =
      s.act.entries.filter fun e => decide (e.role = .valve z h) := by
  rw [resetActs, placeAct_filter_ne (by simp), placeAct_filter_ne (by simp)]
  exact abandonActs_filter_valve s.act z h

theorem OrderSlot.lineReset_eq (o : OrderSlot) :
    o.lineReset = if o.state = .active then { o with state := .loaded } else o := by
  unfold OrderSlot.lineReset
  split <;> simp_all

/-- A LINE RESET of a LEN that fits is served whatever write is open (R198). -/
theorem exec_lineReset {rq : Request} {s : State} (h : reachesMU rq s) (hargs : rq.args = []) :
    exec (.lineReset rq) s = .next (serveLineReset rq (setClock rq.time s)) := by
  obtain ⟨hon, ha, hclear⟩ := h
  rw [exec_of_answerable (code := 19) rfl hon ha]
  simp [takeRequest, answerKeeping, hclear, hargs]

/-- LINE RESET out of FAULT, and what it has done before it answers (R208). -/
theorem serveLineReset_of_no_fault {rq : Request} {s : State} (h : s.lc.line ≠ .fault) :
    serveLineReset rq s =
      respondDone 19 rq 0 [] { closeForReset (resetLine (resetBlocks s)) with mu.flags := 0 } := by
  unfold serveLineReset
  split
  · exact absurd ‹_› h
  all_goals rfl

theorem closeForReset_of_none {s : State} (h : s.mu.openWrite = none) : closeForReset s = s := by
  simp [closeForReset, h]

theorem closeForReset_of_some {s : State} {w : OpenWrite} (h : s.mu.openWrite = some w) :
    closeForReset s = queueClosing w .state s := by
  simp [closeForReset, h]

theorem closeForReset_openWrite (s : State) : (closeForReset s).mu.openWrite = none := by
  cases h : s.mu.openWrite with
  | none => rw [closeForReset_of_none h, h]
  | some w => simp [closeForReset_of_some h, queueClosing]

end Sys2Proof.Machine
end

section
open Sys2Proof Sys2Proof.Machine

/-- Settles O31: LINE RESET leaves the line at rest, so the state before the closing response is known field by field
(`resetLine_resetBlocks`); the closing response then meets the REPORT queue as it stood. -/
theorem lineResetSetsBackAndKeeps : Obligations.LineResetSetsBackAndKeeps := by
  intro rq s h hargs
  rw [exec_lineReset h hargs]
  refine ⟨fun hfault => by simp [serveLineReset, hfault], fun hline => ?_⟩
  rw [serveLineReset_of_no_fault (s := setClock rq.time s) hline]
  have kept := resetLine_resetBlocks (setClock rq.time s)
  generalize hv : resetLine (resetBlocks (setClock rq.time s)) = v at kept
  refine ⟨_, rfl, ?lc, closeForReset_openWrite v, rfl, fun hnone => ?unwritten, fun w hw => ?written, ?invalid, ?pointer,
    ?mem, ?pieces, ?runList, ?nextId, fun i => ?slots, ?fs, ?cursor, ?lastInfeed, ?formed, ?cl, ?belt, ?governing,
    ?exitMark, ?target, ?seam, ?firing, ?splicer, ?unwindA, ?unwindB, ?lastStatus, ?winder, ?manifest, ?closing,
    ?currentPiece, ?lastOrder, ?forced, ?heldOrder, ?diameter, ?takeUpStatus, ?acts, ?beltDrive, ?infeedDrive,
    ?valves, ?nm, ?pt, ?zr, ?da, ?rp⟩
  case unwritten =>
    rw [closeForReset_of_none (by simp [kept, hnone])]
    simp [kept]
  case written =>
    have hwv : v.mu.openWrite = some w := by simp [kept, hw]
    have hreport (r : Report) : (placeReport r (setOpenWrite none v)).report = (placeReport r s).report :=
      placeReport_report_congr (by simp [kept]) (by simp [kept, setOpenWrite]) (by simp [kept]) r
    rw [closeForReset_of_some hwv, queueClosing, hreport]
    exact ⟨rfl, fun hroom => placeReport_report_of_room hroom _⟩
  case invalid => simp [kept, resetLookaside]
  case slots =>
    simp [kept, resetQueue, OrderSlot.lineReset_eq]
  case governing => simp [kept, limitsOf_governing_of_nil, resetQueue]
  case acts =>
    intro e he
    have := resetActs_abandoned (s := setClock rq.time s) (by simpa [kept] using he)
    refine ⟨?_, ?_, ?_, ?_⟩ <;> intro hr <;> simp [hr, abandonsAct] at this
  case beltDrive => simpa [kept] using resetActs_beltDrive (setClock rq.time s)
  case infeedDrive => simpa [kept] using resetActs_infeedDrive (setClock rq.time s)
  case valves =>
    intro z k
    simpa [kept] using resetActs_filter_valve (setClock rq.time s) z k
  all_goals simp [kept, resetLookaside, resetQueue, resetFold, FoldCursor.none, resetGovernor, resetSplice, resetTakeUp]

end

section
namespace Sys2Proof.Machine

/-! ### Adjusted runs and their lengths (R19, R20) -/

/-- A run adjusted, field by field (R19). -/
theorem adjustRun_eq (above : Bool) {q : StoredRun} {kind : RunKind} (hk : q.kind = some kind) :
    adjustRun above q =
      { count := if kind = .box ∧ q.count % 2 = 1 then q.count - 1 else q.count
        spacing := clamp 30 600 q.spacing
        depthStart := min q.depthStart (min (3 * clamp 30 600 q.spacing) 1200)
        depthEnd := min q.depthEnd (min (3 * clamp 30 600 q.spacing) 1200)
        taper := if kind = .box then 1000 else clamp 250 1000 q.taper
        kind := kind
        dir := q.dir
        lead := min q.lead 50000
        flat := above || q.flat } := by
  have hcount : (if kind = .box then q.count - q.count % 2 else q.count) =
      if kind = .box ∧ q.count % 2 = 1 then q.count - 1 else q.count := by
    by_cases hb : kind = .box
    · simp only [hb, true_and, if_true]
      split <;> omega
    · simp [hb]
  simp only [adjustRun, hk, Option.getD_some, hcount]

theorem clamp_range {low high : Nat} (h : low ≤ high) (v : Nat) : low ≤ clamp low high v ∧ clamp low high v ≤ high := by
  unfold clamp
  split
  · omega
  · split <;> omega

/-- The larger of two bounds, as the rules say it. -/
theorem min_eq_ite_lt (v limit : Nat) : min v limit = if limit < v then limit else v := by
  split <;> omega

/-- The kind and the count a gathered run needs (R14). -/
theorem runFault_eq_none_iff (q : StoredRun) : runFault q = none ↔ q.count ≤ 400 ∧ q.kind.isSome = true := by
  unfold runFault
  by_cases h : 400 < q.count
  · simp only [h, if_true, Nat.not_le.mpr h, false_and, reduceCtorEq]
  · have : q.count ≤ 400 := by omega
    cases hk : q.kind <;> simp [h, this]

/-- An adjusted run lies in its ranges (R19, R24). -/
theorem adjustRun_range (above : Bool) {q : StoredRun} (h : runFault q = none) :
    let r := adjustRun above q
    r.count ≤ 400 ∧ 30 ≤ r.spacing ∧ r.spacing ≤ 600 ∧ r.depthStart ≤ min (3 * r.spacing) 1200 ∧
      r.depthEnd ≤ min (3 * r.spacing) 1200 ∧ 250 ≤ r.taper ∧ r.taper ≤ 1000 ∧ r.lead ≤ 50000 ∧
      (r.kind = .box → r.count % 2 = 0 ∧ r.taper = 1000) := by
  obtain ⟨hcount, hkind⟩ := (runFault_eq_none_iff q).mp h
  obtain ⟨kind, hk⟩ := Option.isSome_iff_exists.mp hkind
  obtain ⟨hs1, hs2⟩ := clamp_range (low := 30) (high := 600) (by omega) q.spacing
  obtain ⟨ht1, ht2⟩ := clamp_range (low := 250) (high := 1000) (by omega) q.taper
  rw [adjustRun_eq above hk]
  refine ⟨?count, hs1, hs2, Nat.min_le_right .., Nat.min_le_right .., ?low, ?high, Nat.min_le_right .., fun hb => ⟨?even, if_pos hb⟩⟩
  case count => dsimp only; split <;> omega
  case low => dsimp only; split <;> omega
  case high => dsimp only; split <;> omega
  case even => simp only [show kind = .box from hb, true_and]; split <;> omega

/-- The pleats of a run take at least its spacings (R20). -/
theorem runBelt_le_runInfeed (r : Run) : runBelt r ≤ runInfeed r := by
  have spacings (n : Nat) : n * r.spacing ≤ ((List.range n).map (consumption r)).sum := by
    induction n with
    | zero => simp
    | succ n ih =>
      have : r.spacing ≤ consumption r n := Nat.le_add_right ..
      simp only [List.range_succ, List.map_append, List.sum_append, List.map_singleton, List.sum_singleton, Nat.succ_mul]
      omega
  unfold runBelt
  split
  · exact Nat.le_refl _
  · exact Nat.add_le_add_left (spacings r.count) r.lead

/-! ### The end of a walk (R19, R20, R21) -/

/-- No belt length at all (R21). -/
theorem finishPlan_empty {mirror above : Bool} {cls : Fin 16} {stored : List StoredRun}
    (h : ((stored.map (adjustRun above)).map runBelt).sum = 0) :
    finishPlan mirror cls above stored = .error .empty := by
  simp only [finishPlan, h, if_true]

/-- An infeed length beyond the limit (R21). -/
theorem finishPlan_limit {mirror above : Bool} {cls : Fin 16} {stored : List StoredRun}
    (h : ((stored.map (adjustRun above)).map runBelt).sum ≠ 0)
    (hl : 200000 < ((stored.map (adjustRun above)).map runInfeed).sum +
      (3000 - ((stored.map (adjustRun above)).map runBelt).sum)) :
    finishPlan mirror cls above stored = .error .limit := by
  simp only [finishPlan, Config.planMinimum, Config.planLimit, h, hl, if_true, if_false]

/-- The plan of the runs as adjusted (R20, R21, R24). -/
def planOf (mirror : Bool) (cls : Fin 16) (above : Bool) (stored : List StoredRun) : Plan :=
  let runs := stored.map (adjustRun above)
  let tail := 3000 - (runs.map runBelt).sum
  { mirror := mirror, runs := runs, cls := cls, tail := tail, infeed := (runs.map runInfeed).sum + tail
    belt := (runs.map runBelt).sum + tail
    adjusted := decide (tail ≠ 0) || stored.any fun q => runAdjusted q (adjustRun above q) }

theorem finishPlan_ok {mirror above : Bool} {cls : Fin 16} {stored : List StoredRun}
    (h : ((stored.map (adjustRun above)).map runBelt).sum ≠ 0)
    (hl : ((stored.map (adjustRun above)).map runInfeed).sum +
      (3000 - ((stored.map (adjustRun above)).map runBelt).sum) ≤ 200000) :
    finishPlan mirror cls above stored = .ok (planOf mirror cls above stored) := by
  simp only [finishPlan, planOf, Config.planMinimum, Config.planLimit, h, Nat.not_lt.mpr hl, if_false]
  rfl

/-- A plan that is finished is the plan of its runs, and its lengths fit. -/
theorem eq_planOf_of_finishPlan {mirror above : Bool} {cls : Fin 16} {stored : List StoredRun} {plan : Plan}
    (h : finishPlan mirror cls above stored = .ok plan) :
    plan = planOf mirror cls above stored ∧ ((stored.map (adjustRun above)).map runBelt).sum ≠ 0 ∧
      ((stored.map (adjustRun above)).map runInfeed).sum +
        (3000 - ((stored.map (adjustRun above)).map runBelt).sum) ≤ 200000 := by
  by_cases hb : ((stored.map (adjustRun above)).map runBelt).sum = 0
  · rw [finishPlan_empty hb] at h
    cases h
  · by_cases hl : ((stored.map (adjustRun above)).map runInfeed).sum +
        (3000 - ((stored.map (adjustRun above)).map runBelt).sum) ≤ 200000
    · rw [finishPlan_ok hb hl] at h
      cases h
      exact ⟨rfl, hb, hl⟩
    · rw [finishPlan_limit hb (Nat.not_le.mp hl)] at h
      cases h

/-! ### The levels of a walk, one by one (R11 to R14) -/

section levels

variable {px px1 px2 px3 : Translator} {slot : Fin 8} {o : OrderSlot} {ref : StyleRef} {index : Nat} {e : List Byte}
  {stored : List StoredRun} {stop : WalkStop}

theorem walk_of_grade_error (hd : o.dtype ≠ .flat) (hg : walkGrade px slot o = (px1, .error stop)) :
    walk px slot o = (px1, .error stop) := by
  unfold walk
  split
  · exact absurd ‹_› hd
  · simp [hg]

theorem walk_of_style_error (hd : o.dtype ≠ .flat) (hg : walkGrade px slot o = (px1, .ok ref))
    (hs : walkStyle px1 slot ref o.cursor = (px2, .error stop)) : walk px slot o = (px2, .error stop) := by
  unfold walk
  split
  · exact absurd ‹_› hd
  · simp [hg, hs]

theorem walk_of_panel_error (hd : o.dtype ≠ .flat) (hg : walkGrade px slot o = (px1, .ok ref))
    (hs : walkStyle px1 slot ref o.cursor = (px2, .ok (index, e))) (hp : walkPanel px2 slot index e = (px3, .error stop)) :
    walk px slot o = (px3, .error stop) := by
  unfold walk
  split
  · exact absurd ‹_› hd
  · simp [hg, hs, hp]

theorem walk_of_plan_error {f : WalkFault} (hd : o.dtype ≠ .flat) (hg : walkGrade px slot o = (px1, .ok ref))
    (hs : walkStyle px1 slot ref o.cursor = (px2, .ok (index, e))) (hp : walkPanel px2 slot index e = (px3, .ok stored))
    (hf : finishPlan (panelMirror e) (resolveClass (panelClass e) ref.cls o.cls) (ref.flat || entryFlat e) stored = .error f) :
    walk px slot o = (px3, .error ⟨f, index, .plan⟩) := by
  unfold walk
  split
  · exact absurd ‹_› hd
  · simp [hg, hs, hp, hf]

theorem walk_of_plan {plan : Plan} (hd : o.dtype ≠ .flat) (hg : walkGrade px slot o = (px1, .ok ref))
    (hs : walkStyle px1 slot ref o.cursor = (px2, .ok (index, e))) (hp : walkPanel px2 slot index e = (px3, .ok stored))
    (hf : finishPlan (panelMirror e) (resolveClass (panelClass e) ref.cls o.cls) (ref.flat || entryFlat e) stored = .ok plan) :
    walk px slot o = (px3, .ok (plan, ref.length)) := by
  unfold walk
  split
  · exact absurd ‹_› hd
  · simp [hg, hs, hp, hf]

/-- A walk that completes has passed every level. -/
theorem levels_of_walk_ok {plan : Plan} {n : Nat} (hd : o.dtype ≠ .flat) (h : walk px slot o = (px3, .ok (plan, n))) :
    ∃ px1 ref px2 index e stored, walkGrade px slot o = (px1, .ok ref) ∧
      walkStyle px1 slot ref o.cursor = (px2, .ok (index, e)) ∧ walkPanel px2 slot index e = (px3, .ok stored) ∧
      finishPlan (panelMirror e) (resolveClass (panelClass e) ref.cls o.cls) (ref.flat || entryFlat e) stored = .ok plan ∧
      n = ref.length := by
  match hg : walkGrade px slot o with
  | (px1, .error stop) => rw [walk_of_grade_error hd hg] at h; cases h
  | (px1, .ok ref) =>
    match hs : walkStyle px1 slot ref o.cursor with
    | (px2, .error stop) => rw [walk_of_style_error hd hg hs] at h; cases h
    | (px2, .ok (index, e)) =>
      match hp : walkPanel px2 slot index e with
      | (px3', .error stop) => rw [walk_of_panel_error hd hg hs hp] at h; cases h
      | (px3', .ok stored) =>
        match hf : finishPlan (panelMirror e) (resolveClass (panelClass e) ref.cls o.cls) (ref.flat || entryFlat e) stored with
        | .error f => rw [walk_of_plan_error hd hg hs hp hf] at h; cases h
        | .ok plan' =>
          rw [walk_of_plan hd hg hs hp hf] at h
          cases h
          exact ⟨px1, ref, px2, index, e, stored, rfl, hs, hp, hf, rfl⟩

/-! The grade level (R12). -/

theorem walkGrade_of_not_grade (hd : o.dtype ≠ .grade) (hf : o.dtype ≠ .flat) :
    walkGrade px slot o =
      if o.gradeIndex ≠ 0 then (px, .error ⟨.range, o.origin, .grade⟩)
      else (px, .ok ⟨o.origin, if o.dtype = .style then o.length else 1, false, none⟩) := by
  unfold walkGrade
  cases h : o.dtype with
  | grade => exact absurd h hd
  | flat => exact absurd h hf
  | style => rfl
  | panel => rfl

theorem walkGrade_of_unlisted (hd : o.dtype = .grade) (h : ¬(1 ≤ o.length ∧ o.length ≤ 32)) :
    walkGrade px slot o = (px, .error ⟨.range, o.origin, .grade⟩) := by
  simp only [walkGrade, hd, h, not_false_eq_true, if_true]

theorem walkGrade_of_beyond (hd : o.dtype = .grade) (hl : 1 ≤ o.length ∧ o.length ≤ 32)
    (h : o.length ≤ o.gradeIndex ∨ 4095 < o.origin + o.gradeIndex) :
    walkGrade px slot o = (px, .error ⟨.range, o.origin + o.gradeIndex, .grade⟩) := by
  by_cases hi : o.gradeIndex < o.length
  · simp [walkGrade, hd, hl, hi, h.resolve_left (Nat.not_le.mpr hi)]
  · simp [walkGrade, hd, hl, hi]

theorem walkGrade_of_fetch_error {f : WalkFault} (hd : o.dtype = .grade) (hl : 1 ≤ o.length ∧ o.length ≤ 32)
    (hi : o.gradeIndex < o.length) (hm : o.origin + o.gradeIndex ≤ 4095)
    (hf : fetch px (o.origin + o.gradeIndex) .grade slot = (px1, .error f)) :
    walkGrade px slot o = (px1, .error ⟨f, o.origin + o.gradeIndex, .grade⟩) := by
  simp [walkGrade, hd, hl, hi, Nat.not_lt.mpr hm, hf]

theorem walkGrade_of_fetch (hd : o.dtype = .grade) (hl : 1 ≤ o.length ∧ o.length ≤ 32)
    (hi : o.gradeIndex < o.length) (hm : o.origin + o.gradeIndex ≤ 4095)
    (hf : fetch px (o.origin + o.gradeIndex) .grade slot = (px1, .ok e)) :
    walkGrade px slot o = (px1, .ok ⟨gradeOrigin e, gradeLength e, entryFlat e, gradeClass e⟩) := by
  simp [walkGrade, hd, hl, hi, Nat.not_lt.mpr hm, hf]

/-! The style level (R13). -/

theorem walkStyle_of_unlisted {cursor : Nat} (h : ¬(1 ≤ ref.length ∧ ref.length ≤ 64)) :
    walkStyle px slot ref cursor = (px, .error ⟨.range, ref.origin, .style⟩) := by
  simp only [walkStyle, h, not_false_eq_true, if_true]

theorem walkStyle_of_beyond {cursor : Nat} (hl : 1 ≤ ref.length ∧ ref.length ≤ 64)
    (h : ref.length ≤ cursor ∨ 4095 < ref.origin + cursor) :
    walkStyle px slot ref cursor = (px, .error ⟨.range, ref.origin + cursor, .style⟩) := by
  by_cases hi : cursor < ref.length
  · simp [walkStyle, hl, hi, h.resolve_left (Nat.not_le.mpr hi)]
  · simp [walkStyle, hl, hi]

theorem walkStyle_of_fetch {cursor : Nat} {result : Except WalkFault (List Byte)} (hl : 1 ≤ ref.length ∧ ref.length ≤ 64)
    (hi : cursor < ref.length) (hm : ref.origin + cursor ≤ 4095)
    (hf : fetch px (ref.origin + cursor) .panel slot = (px2, result)) :
    (∀ f, result = .error f → walkStyle px slot ref cursor = (px2, .error ⟨f, ref.origin + cursor, .style⟩)) ∧
      ∀ e, result = .ok e → walkStyle px slot ref cursor = (px2, .ok (ref.origin + cursor, e)) := by
  constructor
  · rintro f rfl
    simp [walkStyle, hl, hi, Nat.not_lt.mpr hm, hf]
  · rintro e rfl
    simp [walkStyle, hl, hi, Nat.not_lt.mpr hm, hf]

/-- A cursor that passed the style level stands within the style. -/
theorem cursor_lt_of_walkStyle_ok {cursor : Nat} (h : walkStyle px slot ref cursor = (px2, .ok (index, e))) :
    cursor < ref.length := by
  by_cases hl : 1 ≤ ref.length ∧ ref.length ≤ 64
  · refine Nat.not_le.mp fun hi => ?_
    rw [walkStyle_of_beyond hl (.inl hi)] at h
    cases h
  · rw [walkStyle_of_unlisted hl] at h
    cases h

end levels

/-! ### The panel level (R14) -/

/-- Runs set before those that a gathering gave. -/
def prependRuns (rs : List StoredRun) (x : Translator × Except WalkStop (List StoredRun)) :
    Translator × Except WalkStop (List StoredRun) := (x.1, x.2.map (rs ++ ·))

@[simp] theorem prependRuns_nil (x : Translator × Except WalkStop (List StoredRun)) : prependRuns [] x = x := by
  obtain ⟨px, r⟩ := x
  cases r <;> rfl

theorem prependRuns_prependRuns (rs qs : List StoredRun) (x : Translator × Except WalkStop (List StoredRun)) :
    prependRuns rs (prependRuns qs x) = prependRuns (rs ++ qs) x := by
  obtain ⟨px, r⟩ := x
  cases r <;> simp [prependRuns, Except.map]

section gathering

variable {px px' : Translator} {slot : Fin 8} {n index : Nat} {e : List Byte}

theorem gatherRuns_beyond (h : 4095 < index) :
    gatherRuns slot (n + 1) index px = (px, .error ⟨.range, index, .panel⟩) := by
  simp only [gatherRuns, h, if_true]

theorem gatherRuns_fetch_error {f : WalkFault} (hm : index ≤ 4095) (hf : fetch px index .run slot = (px', .error f)) :
    gatherRuns slot (n + 1) index px = (px', .error ⟨f, index, .panel⟩) := by
  simp [gatherRuns, Nat.not_lt.mpr hm, hf]

theorem gatherRuns_content {f : WalkFault} (hm : index ≤ 4095) (hf : fetch px index .run slot = (px', .ok e))
    (hc : runFault (storedRun e 1 (entryFlat e)) = some f) :
    gatherRuns slot (n + 1) index px = (px', .error ⟨f, index, .panel⟩) := by
  simp [gatherRuns, Nat.not_lt.mpr hm, hf, hc]

/-- A run gathered, and then the rest. -/
theorem gatherRuns_next (hm : index ≤ 4095) (hf : fetch px index .run slot = (px', .ok e))
    (hc : runFault (storedRun e 1 (entryFlat e)) = none) :
    gatherRuns slot (n + 1) index px =
      prependRuns [storedRun e 1 (entryFlat e)] (gatherRuns slot n (index + 1) px') := by
  simp only [gatherRuns, Nat.not_lt.mpr hm, if_false, hf, hc]
  split <;> rename_i hr <;> simp [prependRuns, hr, Except.map]

/-- The first `k` runs gathered, and then the rest. -/
theorem gatherRuns_prefix {fetched : Nat → List Byte} {reached : Nat → Translator} {k : Nat}
    (h : ∀ j, j < k → index + j ≤ 4095 ∧ runFault (storedRun (fetched j) 1 (entryFlat (fetched j))) = none ∧
      fetch (reached j) (index + j) .run slot = (reached (j + 1), .ok (fetched j))) :
    gatherRuns slot (k + n) index (reached 0) =
      prependRuns ((List.range k).map fun j => storedRun (fetched j) 1 (entryFlat (fetched j)))
        (gatherRuns slot n (index + k) (reached k)) := by
  induction k generalizing n with
  | zero => simp
  | succ k ih =>
    obtain ⟨hm, hc, hf⟩ := h k (Nat.lt_succ_self k)
    rw [Nat.succ_add_eq_add_succ, ih fun j hj => h j (Nat.lt_succ_of_lt hj), gatherRuns_next hm hf hc,
      prependRuns_prependRuns, List.range_succ, List.map_append]
    rfl

/-- What a gathering that completes gave: as many runs as were asked for, none with a fault. -/
theorem gatherRuns_ok {stored : List StoredRun} (h : gatherRuns slot n index px = (px', .ok stored)) :
    stored.length = n ∧ ∀ q ∈ stored, runFault q = none := by
  induction n generalizing index px stored with
  | zero => cases h; simp
  | succ n ih =>
    by_cases hm : index ≤ 4095
    · match hf : fetch px index .run slot with
      | (px1, .error f) => rw [gatherRuns_fetch_error hm hf] at h; cases h
      | (px1, .ok e) =>
        cases hc : runFault (storedRun e 1 (entryFlat e)) with
        | some f => rw [gatherRuns_content hm hf hc] at h; cases h
        | none =>
          rw [gatherRuns_next hm hf hc] at h
          match hr : gatherRuns slot n (index + 1) px1 with
          | (px2, .error stop) => rw [hr] at h; cases h
          | (px2, .ok rs) =>
            rw [hr] at h
            cases h
            obtain ⟨hl, hall⟩ := ih hr
            simpa [hl, hc] using hall
    · rw [gatherRuns_beyond (Nat.not_le.mp hm)] at h
      cases h

theorem walkPanel_uniform_fault {f : WalkFault} (hu : panelUniform e = true)
    (hf : runFault (storedRun e 2 false) = some f) : walkPanel px slot index e = (px, .error ⟨f, index, .panel⟩) := by
  simp only [walkPanel, hu, hf, if_true]

theorem walkPanel_uniform (hu : panelUniform e = true) (hf : runFault (storedRun e 2 false) = none) :
    walkPanel px slot index e = (px, .ok [storedRun e 2 false]) := by
  simp only [walkPanel, hu, hf, if_true]

theorem walkPanel_of_count (hu : panelUniform e = false) (hc : panelRunCount e = 0 ∨ 8 < panelRunCount e) :
    walkPanel px slot index e = (px, .error ⟨.range, index, .panel⟩) := by
  have : ¬(1 ≤ panelRunCount e ∧ panelRunCount e ≤ 8) := by omega
  simp only [walkPanel, hu, this, not_false_eq_true, if_true, Bool.false_eq_true, if_false]

theorem walkPanel_gathers (hu : panelUniform e = false) (h1 : 1 ≤ panelRunCount e) (h8 : panelRunCount e ≤ 8) :
    walkPanel px slot index e = gatherRuns slot (panelRunCount e) (panelRunOrigin e) px := by
  simp [walkPanel, hu, h1, h8]

/-- The runs a panel gives: 1 to 8, none with a fault (R14). -/
theorem walkPanel_ok {stored : List StoredRun} (h : walkPanel px slot index e = (px', .ok stored)) :
    1 ≤ stored.length ∧ stored.length ≤ 8 ∧ ∀ q ∈ stored, runFault q = none := by
  cases hu : panelUniform e with
  | true =>
    cases hf : runFault (storedRun e 2 false) with
    | some f => rw [walkPanel_uniform_fault hu hf] at h; cases h
    | none =>
      rw [walkPanel_uniform hu hf] at h
      cases h
      simp [hf]
  | false =>
    by_cases hc : panelRunCount e = 0 ∨ 8 < panelRunCount e
    · rw [walkPanel_of_count hu hc] at h
      cases h
    · rw [walkPanel_gathers hu (by omega) (by omega)] at h
      obtain ⟨hl, hall⟩ := gatherRuns_ok h
      exact ⟨by omega, by omega, hall⟩

end gathering

/-! ### What a walk that completes, or reaches its end, gives -/

theorem runBelt_sum_le_runInfeed_sum (rs : List Run) : (rs.map runBelt).sum ≤ (rs.map runInfeed).sum := by
  induction rs with
  | nil => exact Nat.le_refl _
  | cons r rs ih =>
    simp only [List.map_cons, List.sum_cons]
    exact Nat.add_le_add (runBelt_le_runInfeed r) ih

/-- The ranges of a finished plan (R19, R20, R21, R24). -/
theorem planOf_range {mirror above : Bool} {cls : Fin 16} {stored : List StoredRun}
    (hq : ∀ q ∈ stored, runFault q = none) (hb : ((stored.map (adjustRun above)).map runBelt).sum ≠ 0)
    (hl : ((stored.map (adjustRun above)).map runInfeed).sum +
      (3000 - ((stored.map (adjustRun above)).map runBelt).sum) ≤ 200000) :
    let plan := planOf mirror cls above stored
    plan.tail ≤ 2999 ∧ 3000 ≤ plan.belt ∧ plan.belt ≤ plan.infeed ∧ plan.infeed ≤ 200000 ∧
      ∀ r ∈ plan.runs, r.count ≤ 400 ∧ 30 ≤ r.spacing ∧ r.spacing ≤ 600 ∧ r.depthStart ≤ min (3 * r.spacing) 1200 ∧
        r.depthEnd ≤ min (3 * r.spacing) 1200 ∧ 250 ≤ r.taper ∧ r.taper ≤ 1000 ∧ r.lead ≤ 50000 ∧
        (r.kind = .box → r.count % 2 = 0 ∧ r.taper = 1000) := by
  have belt_le := runBelt_sum_le_runInfeed_sum (stored.map (adjustRun above))
  dsimp only [planOf]
  refine ⟨by omega, by omega, by omega, hl, fun r hr => ?_⟩
  obtain ⟨q, hmem, rfl⟩ := List.mem_map.mp hr
  exact adjustRun_range above (hq q hmem)

/-- A run flat where an entry above it or its own says so (R17). -/
theorem adjustRun_flat (above : Bool) (q : StoredRun) : (adjustRun above q).flat = (above || q.flat) := rfl

/-- A plan is adjusted when its tail or one of its runs is (R19). -/
theorem planOf_adjusted_iff (mirror above : Bool) (cls : Fin 16) (stored : List StoredRun) :
    (planOf mirror cls above stored).adjusted = true ↔
      ((stored.map (adjustRun above)).map runBelt).sum < 3000 ∨
        ∃ q ∈ stored, runAdjusted q (adjustRun above q) = true := by
  simp only [planOf, Bool.or_eq_true, decide_eq_true_eq, List.any_eq_true]
  have : 3000 - ((stored.map (adjustRun above)).map runBelt).sum ≠ 0 ↔
      ((stored.map (adjustRun above)).map runBelt).sum < 3000 := by omega
  rw [this]

/-- What becomes of a walk whose panel level gave its runs: EMPTY, LIMIT or the plan (R21). -/
def Completes (px : Translator) (slot : Fin 8) (o : OrderSlot) (ref : StyleRef) (index : Nat) (e : List Byte)
    (px3 : Translator) (stored : List StoredRun) : Prop :=
  let flatAbove := ref.flat || entryFlat e
  let runs := stored.map (adjustRun flatAbove)
  let infeed := (runs.map runInfeed).sum
  let belt := (runs.map runBelt).sum
  (belt = 0 → walk px slot o = (px3, .error ⟨.empty, index, .plan⟩)) ∧
    (belt ≠ 0 → 200000 < infeed + (3000 - belt) → walk px slot o = (px3, .error ⟨.limit, index, .plan⟩)) ∧
    (belt ≠ 0 → infeed + (3000 - belt) ≤ 200000 →
      ∃ plan, walk px slot o = (px3, .ok (plan, ref.length)) ∧ plan.runs = runs ∧ plan.mirror = panelMirror e ∧
        plan.cls = (panelClass e).getD (ref.cls.getD o.cls) ∧ plan.tail = 3000 - belt ∧
        (plan.runs.map Run.flat = stored.map fun q => flatAbove || q.flat) ∧
        (plan.adjusted = true ↔ belt < 3000 ∨ ∃ q ∈ stored, runAdjusted q (adjustRun flatAbove q) = true))

theorem resolveClass_eq (panel grade : Option (Fin 16)) (slot : Fin 16) :
    resolveClass panel grade slot = panel.getD (grade.getD slot) := by
  cases panel <;> rfl

theorem completes_of_levels {px px1 px2 px3 : Translator} {slot : Fin 8} {o : OrderSlot} {ref : StyleRef} {index : Nat}
    {e : List Byte} {stored : List StoredRun} (hd : o.dtype ≠ .flat) (hg : walkGrade px slot o = (px1, .ok ref))
    (hs : walkStyle px1 slot ref o.cursor = (px2, .ok (index, e)))
    (hp : walkPanel px2 slot index e = (px3, .ok stored)) : Completes px slot o ref index e px3 stored := by
  refine ⟨fun hb => walk_of_plan_error hd hg hs hp (finishPlan_empty hb),
    fun hb hl => walk_of_plan_error hd hg hs hp (finishPlan_limit hb hl),
    fun hb hl => ⟨_, walk_of_plan hd hg hs hp (finishPlan_ok hb hl), rfl, rfl, resolveClass_eq .., rfl, ?_,
      planOf_adjusted_iff ..⟩⟩
  simp [planOf, Function.comp_def, adjustRun_flat]

/-- The ranges of every plan a walk completes. -/
theorem walk_ok_range {px px' : Translator} {slot : Fin 8} {o : OrderSlot} {plan : Plan} {n : Nat} (hd : o.dtype ≠ .flat)
    (h : walk px slot o = (px', .ok (plan, n))) :
    1 ≤ plan.runs.length ∧ plan.runs.length ≤ 8 ∧ plan.tail ≤ 2999 ∧ 3000 ≤ plan.belt ∧ plan.belt ≤ plan.infeed ∧
      plan.infeed ≤ 200000 ∧ plan.belt = (plan.runs.map runBelt).sum + plan.tail ∧
      plan.infeed = (plan.runs.map runInfeed).sum + plan.tail ∧
      (∀ r ∈ plan.runs, r.count ≤ 400 ∧ 30 ≤ r.spacing ∧ r.spacing ≤ 600 ∧ r.depthStart ≤ min (3 * r.spacing) 1200 ∧
        r.depthEnd ≤ min (3 * r.spacing) 1200 ∧ 250 ≤ r.taper ∧ r.taper ≤ 1000 ∧ r.lead ≤ 50000 ∧
        (r.kind = .box → r.count % 2 = 0 ∧ r.taper = 1000)) ∧ px'.mem = px.mem := by
  have hmem := (walk_frame px slot o).1
  rw [h] at hmem
  obtain ⟨px1, ref, px2, index, e, stored, hg, hs, hp, hf, -⟩ := levels_of_walk_ok hd h
  obtain ⟨rfl, hb, hl⟩ := eq_planOf_of_finishPlan hf
  obtain ⟨h1, h8, hq⟩ := walkPanel_ok hp
  obtain ⟨htail, hbelt, hle, hinfeed, hruns⟩ := planOf_range (mirror := panelMirror e)
    (cls := resolveClass (panelClass e) ref.cls o.cls) hq hb hl
  exact ⟨by simpa [planOf] using h1, by simpa [planOf] using h8, htail, hbelt, hle, hinfeed, rfl, rfl, hruns, hmem⟩

end Sys2Proof.Machine
end

section
open Sys2Proof Sys2Proof.Machine

/-- Settles O36: the ranges of a finished plan, then the walk level by level, each clause one equation of its level, then
the fields of an adjusted run and its lengths. -/
theorem walkedPlansMeetTheirRanges : Obligations.WalkedPlansMeetTheirRanges := by
  refine ⟨fun px px' slot o plan n hd h => walk_ok_range hd h, fun px slot o hd => ⟨fun hgrade => ⟨fun hl => ?_, fun hl hb => ?_,
    fun px1 f hl hi hm hf => ?_⟩, fun hgrade hi => ?_, fun px1 ref href => ?_⟩, fun above q kind hk => ?_,
    fun r => ⟨rfl, fun hf => ?_, fun hf => ?_⟩⟩
  · exact walk_of_grade_error hd (walkGrade_of_unlisted hgrade hl)
  · exact walk_of_grade_error hd (walkGrade_of_beyond hgrade hl hb)
  · exact walk_of_grade_error hd (walkGrade_of_fetch_error hgrade hl hi hm hf)
  · exact walk_of_grade_error hd ((walkGrade_of_not_grade hgrade hd).trans (if_pos hi))
  · have hg : walkGrade px slot o = (px1, .ok ref) := by
      obtain ⟨hgrade, hl, hi, hm, e, hf, rfl⟩ | ⟨hgrade, hi, rfl, rfl⟩ := href
      · exact walkGrade_of_fetch hgrade hl hi hm hf
      · exact (walkGrade_of_not_grade hgrade hd).trans (if_neg (not_not_intro hi))
    refine ⟨fun hl => walk_of_style_error hd hg (walkStyle_of_unlisted hl),
      fun hl hb => walk_of_style_error hd hg (walkStyle_of_beyond hl hb), fun px2 result hl hi hm hf => ?_⟩
    obtain ⟨hbad, hgood⟩ := walkStyle_of_fetch hl hi hm hf
    refine ⟨fun f hr => walk_of_style_error hd hg (hbad f hr), fun e hr => ?_⟩
    have hs := hgood e hr
    refine ⟨fun hu => ⟨fun f hf => ?_, fun hf => ?_⟩, fun hu => ⟨fun hc => ?_, fun k fetched reached h1 h8 hk h0 => ?_⟩⟩
    · exact walk_of_panel_error hd hg hs (walkPanel_uniform_fault hu hf)
    · exact completes_of_levels hd hg hs (walkPanel_uniform hu hf)
    · exact walk_of_panel_error hd hg hs (walkPanel_of_count hu hc)
    · intro run hprefix
      subst h0
      have hgathered (rest : Translator × Except WalkStop (List StoredRun))
          (hrest : gatherRuns slot (panelRunCount e - k) (panelRunOrigin e + k) (reached k) = rest) :
          walkPanel (reached 0) slot (ref.origin + o.cursor) e =
            prependRuns ((List.range k).map fun j => run (fetched j)) rest := by
        rw [walkPanel_gathers hu h1 h8, ← hrest, ← gatherRuns_prefix hprefix, Nat.add_sub_cancel' hk]
      have hstopped {px3 : Translator} {stop : WalkStop}
          (hrest : gatherRuns slot (panelRunCount e - k) (panelRunOrigin e + k) (reached k) = (px3, .error stop)) :
          walk px slot o = (px3, .error stop) := walk_of_panel_error hd hg hs ((hgathered _ hrest).trans rfl)
      have more (hlt : k < panelRunCount e) : panelRunCount e - k = panelRunCount e - k - 1 + 1 := by omega
      refine ⟨fun hlt hb => ?_, fun px3 f hlt hm hf => ?_, fun px3 c f hlt hm hf hc => ?_, fun hkc => ?_⟩
      · exact hstopped (more hlt ▸ gatherRuns_beyond hb)
      · exact hstopped (more hlt ▸ gatherRuns_fetch_error hm hf)
      · exact hstopped (more hlt ▸ gatherRuns_content hm hf hc)
      · refine completes_of_levels hd hg hs ((hgathered (reached k, .ok []) ?_).trans ?_)
        · rw [hkc, Nat.sub_self]
          rfl
        · simp [prependRuns, Except.map]
  · intro spacing limit r
    refine ⟨?_, ?_⟩
    · simp only [r, adjustRun_eq above hk, clamp, min_eq_ite_lt _ 50000, min_eq_ite_lt _ (min _ _)]
      rfl
    · simp only [runAdjusted, Bool.not_eq_true', Bool.and_eq_false_iff, decide_eq_false_iff_not, or_assoc]
  · exact if_pos hf
  · simp [runBelt, hf]

end

section
namespace Sys2Proof.Machine

/-! ### What the splice controller's planning does to the pieces and the flags (R143, R145) -/

/-- A piece but for its seam record and the two flags that go with it. -/
def Piece.unseamed (p : Piece) : Piece :=
  { p with seam := none, flags.spliced := false, flags.spliceForced := false }

/-- From `s` to `t` the queued pieces changed in their seam records and seam flags at most, and no event flag was
cleared. -/
structure SeamsOnly (s t : State) : Prop where
  pieces : t.pq.pieces.map Piece.unseamed = s.pq.pieces.map Piece.unseamed
  held : ∀ g, flagHeld g s = true → flagHeld g t = true

namespace SeamsOnly

theorem of_eq {s t : State} (hp : t.pq.pieces = s.pq.pieces) (hf : t.mu.flags = s.mu.flags) : SeamsOnly s t :=
  ⟨by rw [hp], fun g h => by simpa only [flagHeld, hf] using h⟩

theorem refl (s : State) : SeamsOnly s s := of_eq rfl rfl

theorem trans {s t u : State} (h : SeamsOnly s t) (k : SeamsOnly t u) : SeamsOnly s u :=
  ⟨k.pieces.trans h.pieces, fun g hg => k.held g (h.held g hg)⟩

/-- Each operation of the planning, after what came before it. -/
theorem raise {s t : State} (h : SeamsOnly s t) (f : Flag) : SeamsOnly s (raise f t) :=
  h.trans ⟨by simp, fun _ => flagHeld_raise_of_held f⟩

theorem raiseIf {s t : State} (h : SeamsOnly s t) (c : Bool) (f : Flag) : SeamsOnly s (raiseIf c f t) := by
  unfold Machine.raiseIf
  split
  · exact h.raise f
  · exact h

theorem modifyPiece {s t : State} (h : SeamsOnly s t) (id : Nat) {f : Piece → Piece}
    (hf : ∀ p, (f p).unseamed = p.unseamed) : SeamsOnly s (modifyPiece id f t) := by
  refine h.trans ⟨?_, fun g hg => by simpa [flagHeld] using hg⟩
  simp only [modifyPiece_pieces, List.map_map]
  refine List.map_congr_left fun p _ => ?_
  simp only [Function.comp_apply]
  split
  · exact hf p
  · rfl

theorem commandBelt {s t : State} (h : SeamsOnly s t) (cmd : Nat) : SeamsOnly s (commandBelt cmd t) :=
  h.trans (of_eq (by simp) (by simp))

theorem recompute {s t : State} (h : SeamsOnly s t) : SeamsOnly s (recompute t) := by
  unfold Machine.recompute
  refine commandBelt (raiseIf (h.trans ?_) _ _) _
  exact of_eq rfl rfl

theorem handSeam {s t : State} (h : SeamsOnly s t) (id : Nat) : SeamsOnly s (handSeam id t) := by
  unfold Machine.handSeam
  split
  · exact recompute (h.trans (of_eq (by simp) (by simp)))
  · exact h.recompute

theorem judgeForced {s t : State} (h : SeamsOnly s t) (p : Piece) (forced : Bool) :
    SeamsOnly s (judgeForced p forced t) := by
  unfold Machine.judgeForced
  refine raiseIf (modifyPiece h _ ?_) _ _
  exact fun _ => rfl

theorem writeSeam {s t : State} (h : SeamsOnly s t) (p : Piece) (c : Cover) (x : Position) :
    SeamsOnly s (writeSeam p c x t) := by
  unfold Machine.writeSeam
  refine handSeam (judgeForced (modifyPiece h _ ?_) _ _) _
  exact fun _ => rfl

theorem detachSeam {s t : State} (h : SeamsOnly s t) (attached : Option Nat) : SeamsOnly s (detachSeam attached t) := by
  unfold Machine.detachSeam
  split
  · refine recompute (modifyPiece h _ ?_)
    exact fun _ => rfl
  · exact h

theorem attachTo {s t : State} (h : SeamsOnly s t) (f : SeamFlight) (p : Piece) (c : Cover) :
    SeamsOnly s (attachTo f p c t) := by
  unfold Machine.attachTo
  split
  · exact (h.writeSeam p c f.seam).trans (of_eq rfl rfl)
  · dsimp only
    split
    · refine SeamsOnly.trans (raise (modifyPiece (h.detachSeam f.attached) p.id ?_) .spliceForced) (of_eq rfl rfl)
      exact fun _ => rfl
    · exact ((h.detachSeam f.attached).writeSeam p c f.seam).trans (of_eq rfl rfl)

theorem attachSeam {s t : State} (h : SeamsOnly s t) : SeamsOnly s (attachSeam t) := by
  unfold Machine.attachSeam
  split
  · exact h
  · split
    · split
      · exact h.attachTo _ _ _
      · exact h
    · exact (h.detachSeam _).trans (of_eq rfl rfl)

theorem fireSplice {s t : State} (h : SeamsOnly s t) (x : SpliceTarget) : SeamsOnly s (fireSplice x t) := by
  unfold Machine.fireSplice
  refine attachSeam (h.trans ?_)
  split
  · exact of_eq (by simp) (by simp)
  · exact of_eq rfl rfl

theorem fireIfReached {s t : State} (h : SeamsOnly s t) : SeamsOnly s (fireIfReached t) := by
  unfold Machine.fireIfReached
  split
  · split
    · exact h.fireSplice _
    · exact h
  · exact h

theorem takeTarget {s t : State} (h : SeamsOnly s t) (x : Option SpliceTarget) : SeamsOnly s (takeTarget x t) :=
  h.trans (of_eq (by simp) (by simp))

theorem runSearch {s t : State} (h : SeamsOnly s t) : SeamsOnly s (runSearch t) := by
  unfold Machine.runSearch
  split
  · split
    · exact h
    · exact (h.takeTarget _).fireIfReached
  · split
    · exact h.fireIfReached
    · exact (h.takeTarget _).fireIfReached
  · exact (h.takeTarget _).fireIfReached
  · exact h

theorem replanSplice {s t : State} (h : SeamsOnly s t) : SeamsOnly s (replanSplice t) := h.attachSeam.runSearch

end SeamsOnly

/-- With no splice armed or in flight the planning changes nothing (R138, R143). -/
theorem replanSplice_of_rest {s : State} (hseam : s.sc.seam = none) (hst : s.sc.state = .idle ∨ s.sc.state = .ready) :
    replanSplice s = s := by
  have attach : attachSeam s = s := by simp [attachSeam, hseam]
  rw [replanSplice, attach]
  rcases hst with h | h <;> simp [runSearch, h]

/-! ### Piece ids (R38) -/

theorem idTaken_iff (n : Nat) (ps : List Piece) : idTaken n ps = true ↔ ∃ p ∈ ps, p.id = n := by
  simp [idTaken]

theorem repeat_add {α : Type} (f : α → α) (m n : Nat) (a : α) :
    Nat.repeat f (m + n) a = Nat.repeat f m (Nat.repeat f n a) := by
  induction m with
  | zero => rw [Nat.zero_add, Nat.repeat]
  | succ m ih => rw [Nat.succ_add, Nat.repeat, Nat.repeat, ih]

/-- The counter steps past the ids in the queue as far as its fuel lets it. -/
theorem freeId_eq_repeat (ps : List Piece) {k : Nat} : ∀ {fuel n : Nat}, k ≤ fuel →
    (∀ j, j < k → idTaken (Nat.repeat nextPieceId j n) ps = true) → idTaken (Nat.repeat nextPieceId k n) ps = false →
    freeId ps fuel n = Nat.repeat nextPieceId k n := by
  induction k with
  | zero =>
    intro fuel n _ _ hfree
    cases fuel with
    | zero => rfl
    | succ fuel =>
      have hn : idTaken n ps = false := hfree
      simp only [freeId, hn, Bool.false_eq_true, if_false, Nat.repeat]
  | succ k ih =>
    intro fuel n hfuel htaken hfree
    cases fuel with
    | zero => omega
    | succ fuel =>
      have hn : idTaken n ps = true := htaken 0 (by omega)
      have start (j : Nat) : Nat.repeat nextPieceId j (nextPieceId n) = Nat.repeat nextPieceId (j + 1) n :=
        (repeat_add nextPieceId j 1 n).symm
      simp only [freeId, hn, if_true]
      rw [← start] at hfree ⊢
      exact ih (by omega) (fun j hj => start j ▸ htaken (j + 1) (by omega)) hfree

/-- The counter meets an id for the first time before the first free one, so it passes at most as many ids as there are
queued pieces: two equal ones would make the free one equal to an earlier one. -/
theorem firstFree_le_length {ps : List Piece} {k n : Nat}
    (htaken : ∀ j, j < k → idTaken (Nat.repeat nextPieceId j n) ps = true)
    (hfree : idTaken (Nat.repeat nextPieceId k n) ps = false) : k ≤ ps.length := by
  have before {i j : Nat} (hij : i < j) (hj : j < k) : Nat.repeat nextPieceId i n ≠ Nat.repeat nextPieceId j n := by
    intro heq
    have hsum : Nat.repeat nextPieceId (k - j + i) n = Nat.repeat nextPieceId k n := by
      rw [repeat_add, heq, ← repeat_add, Nat.sub_add_cancel (Nat.le_of_lt hj)]
    rw [← hsum, htaken _ (by omega)] at hfree
    cases hfree
  have nodup : ((List.range k).map fun j => Nat.repeat nextPieceId j n).Nodup := by
    refine List.pairwise_map.mpr (List.pairwise_lt_range.imp_of_mem fun _ hj hij => ?_)
    exact before hij (List.mem_range.mp hj)
  have subset : ((List.range k).map fun j => Nat.repeat nextPieceId j n) ⊆ ps.map Piece.id := by
    intro id hid
    obtain ⟨j, hj, rfl⟩ := List.mem_map.mp hid
    obtain ⟨p, hp, hpid⟩ := (idTaken_iff _ _).mp (htaken j (List.mem_range.mp hj))
    exact List.mem_map.mpr ⟨p, hp, hpid⟩
  simpa using nodup.length_le_of_subset subset

/-- The new id is the first that no queued piece has, from the counter on (R38). -/
theorem newId_eq_repeat {s : State} {k : Nat}
    (htaken : ∀ j, j < k → idTaken (Nat.repeat nextPieceId j s.pq.nextId) s.pq.pieces = true)
    (hfree : idTaken (Nat.repeat nextPieceId k s.pq.nextId) s.pq.pieces = false) :
    newId s = Nat.repeat nextPieceId k s.pq.nextId :=
  freeId_eq_repeat _ (Nat.le_succ_of_le (firstFree_le_length htaken hfree)) htaken hfree

end Sys2Proof.Machine
end

section
namespace Sys2Proof.Machine

/-! ### One admission (R32 to R36) -/

/-- A piece admitted and handed to SC and SG, before the order is judged complete (R35). -/
def admitted (slot : Fin 8) (plan : Plan) (styleLength : Nat) (s : State) : State :=
  recompute (replanSplice (raiseIf plan.adjusted .planAdjusted
    (modifySlot slot (advanceCursor styleLength) (appendPiece (panelPiece slot plan s) s))))

theorem acceptPlan_eq (slot : Fin 8) (plan : Plan) (styleLength : Nat) (s : State) :
    acceptPlan slot plan styleLength s =
      if orderComplete styleLength s.pq.slots[slot] then completeOrder slot (admitted slot plan styleLength s)
      else admitted slot plan styleLength s := rfl

theorem admitted_pq (slot : Fin 8) (plan : Plan) (styleLength : Nat) (s : State) :
    (admitted slot plan styleLength s).pq.slots = s.pq.slots.set slot (advanceCursor styleLength s.pq.slots[slot]) ∧
      (admitted slot plan styleLength s).pq.runList = s.pq.runList ∧
      (admitted slot plan styleLength s).pq.nextId = nextPieceId (newId s) := by
  simp [admitted, panelPiece, newPiece]

/-- The queue after an admission: the pieces before it but for their seams, and the new piece behind them. -/
theorem admitted_pieces (slot : Fin 8) (plan : Plan) (styleLength : Nat) (s : State) :
    ∃ front p, (admitted slot plan styleLength s).pq.pieces = front ++ [p] ∧
      front.map Piece.unseamed = s.pq.pieces.map Piece.unseamed ∧ p.unseamed = (panelPiece slot plan s).unseamed := by
  have h := (SeamsOnly.recompute (SeamsOnly.replanSplice (SeamsOnly.refl (raiseIf plan.adjusted .planAdjusted
    (modifySlot slot (advanceCursor styleLength) (appendPiece (panelPiece slot plan s) s)))))).pieces
  simp only [raiseIf_frame, modifySlot_frame, appendPiece_pieces, List.map_append] at h
  obtain ⟨front, back, hsplit, hfront, hback⟩ := List.map_eq_append_iff.mp h
  obtain ⟨p, rfl, hp⟩ := List.map_eq_singleton_iff.mp hback
  exact ⟨front, p, hsplit, hfront, hp⟩

/-- With no splice armed or in flight the pieces before stand, and the new one has no seam. -/
theorem admitted_of_rest {slot : Fin 8} {plan : Plan} {styleLength : Nat} {s : State} (hseam : s.sc.seam = none)
    (hst : s.sc.state = .idle ∨ s.sc.state = .ready) :
    (admitted slot plan styleLength s).pq.pieces = s.pq.pieces ++ [panelPiece slot plan s] ∧
      (admitted slot plan styleLength s).cl = s.cl ∧ (admitted slot plan styleLength s).sc = s.sc := by
  rw [admitted, replanSplice_of_rest (by simpa using hseam) (by simpa using hst)]
  simp

theorem admitted_planAdjusted {slot : Fin 8} {plan : Plan} (h : plan.adjusted = true) (styleLength : Nat) (s : State) :
    flagHeld .planAdjusted (admitted slot plan styleLength s) = true := by
  refine (SeamsOnly.recompute (SeamsOnly.replanSplice (SeamsOnly.refl _))).held _ ?_
  simp only [raiseIf, h, if_true]
  exact flagHeld_raise _ _

theorem promoteHead_slots_ne {s : State} {i : Fin 8} (h : s.pq.runList.head? ≠ some i) :
    (promoteHead s).pq.slots[i] = s.pq.slots[i] := by
  unfold promoteHead
  split
  · rfl
  · rename_i j rest hl
    split
    · exact modifySlot_ne (fun e => h (by simp [hl, e])) _ s
    · rfl

/-- A LOADED head becomes ACTIVE (R28). -/
theorem promoteHead_of_loaded {s : State} {i : Fin 8} (h : s.pq.runList.head? = some i)
    (hl : s.pq.slots[i].state = .loaded) : (promoteHead s).pq.slots[i] = { s.pq.slots[i] with state := .active } := by
  obtain ⟨rest, hr⟩ := List.head?_eq_some_iff.mp h
  simp only [promoteHead, hr, hl, if_true]
  exact modifySlot_self i _ s

/-- What the end of an order does to its slot, the run list and the next head (R36). -/
theorem completeOrder_pq (slot : Fin 8) (s : State) :
    (completeOrder slot s).pq.runList = s.pq.runList.filter (fun i => !decide (i = slot)) ∧
      (completeOrder slot s).pq.slots[slot] = { s.pq.slots[slot] with state := .done } ∧
      ∀ i ∈ (completeOrder slot s).pq.runList.head?, s.pq.slots[i].state = .loaded →
        (completeOrder slot s).pq.slots[i].state = .active := by
  have hlist : (completeOrder slot s).pq.runList = s.pq.runList.filter fun i => !decide (i = slot) := by
    simp [completeOrder]
  have hne {i : Fin 8} (hi : (s.pq.runList.filter fun i => !decide (i = slot)).head? = some i) : i ≠ slot := by
    have := (List.mem_filter.mp (List.mem_of_head? hi)).2
    simpa using this
  refine ⟨hlist, ?_, fun i hi hl => ?_⟩
  · rw [completeOrder, promoteHead_slots_ne]
    · simp
    · exact fun h => hne (by simpa using h) rfl
  · rw [hlist] at hi
    have hi' := hne hi
    have hslot : (i : Nat) ≠ slot := fun e => hi' (Fin.ext e)
    rw [completeOrder, promoteHead_of_loaded (by simpa using hi)]
    simpa [Ne.symm hslot] using hl

theorem flagHeld_completeOrder {g : Flag} {s : State} (slot : Fin 8) (h : flagHeld g s = true) :
    flagHeld g (completeOrder slot s) = true := by
  have hr := flagHeld_raise_of_held .orderDone (s := modifySlot slot (fun o => { o with state := .done }) s)
    (g := g) (by simpa [flagHeld] using h)
  simpa [completeOrder, flagHeld] using hr

theorem completeOrder_orderDone (slot : Fin 8) (s : State) : flagHeld .orderDone (completeOrder slot s) = true := by
  have hr := flagHeld_raise .orderDone (modifySlot slot (fun o => { o with state := .done }) s)
  simpa [completeOrder, flagHeld] using hr

/-- The queue and the counter are those of the piece admitted, whether or not its order is complete. -/
theorem acceptPlan_pq (slot : Fin 8) (plan : Plan) (styleLength : Nat) (s : State) :
    (acceptPlan slot plan styleLength s).pq.pieces = (admitted slot plan styleLength s).pq.pieces ∧
      (acceptPlan slot plan styleLength s).pq.nextId = nextPieceId (newId s) ∧
      (acceptPlan slot plan styleLength s).cl = (admitted slot plan styleLength s).cl ∧
      (acceptPlan slot plan styleLength s).sc = (admitted slot plan styleLength s).sc := by
  obtain ⟨-, -, hid⟩ := admitted_pq slot plan styleLength s
  rw [acceptPlan_eq]
  split <;> simp [hid]

/-- An admission that leaves its order short of its skirts (R35). -/
theorem acceptPlan_of_incomplete {slot : Fin 8} {plan : Plan} {styleLength : Nat} {s : State}
    (h : orderComplete styleLength s.pq.slots[slot] = false) :
    (acceptPlan slot plan styleLength s).pq.slots[slot] = advanceCursor styleLength s.pq.slots[slot] ∧
      (acceptPlan slot plan styleLength s).pq.runList = s.pq.runList := by
  obtain ⟨hslots, hlist, -⟩ := admitted_pq slot plan styleLength s
  rw [acceptPlan_eq, h]
  simp [hslots, hlist]

/-- An admission that completes its order (R36). -/
theorem acceptPlan_of_complete {slot : Fin 8} {plan : Plan} {styleLength : Nat} {s : State}
    (h : orderComplete styleLength s.pq.slots[slot] = true) :
    let u := acceptPlan slot plan styleLength s
    u.pq.slots[slot] = { advanceCursor styleLength s.pq.slots[slot] with state := .done } ∧
      u.pq.runList = s.pq.runList.filter (fun i => !decide (i = slot)) ∧ flagHeld .orderDone u = true ∧
      ∀ i ∈ u.pq.runList.head?, s.pq.slots[i].state = .loaded → u.pq.slots[i].state = .active := by
  obtain ⟨hslots, hlist, -⟩ := admitted_pq slot plan styleLength s
  obtain ⟨hrun, hslot, hhead⟩ := completeOrder_pq slot (admitted slot plan styleLength s)
  intro u
  have hu : u = completeOrder slot (admitted slot plan styleLength s) := by simp only [u, acceptPlan_eq, h, if_true]
  rw [hu]
  refine ⟨?_, ?_, completeOrder_orderDone _ _, fun i hi hl => hhead i hi ?_⟩
  · rw [hslot]
    simp [hslots]
  · rw [hrun, hlist]
  · have hi' : i ≠ slot := by
      rw [hrun] at hi
      simpa using (List.mem_filter.mp (List.mem_of_head? hi)).2
    have hne : (slot : Nat) ≠ i := fun e => hi' (Fin.ext e.symm)
    simpa [hslots, hne] using hl

theorem acceptPlan_planAdjusted {slot : Fin 8} {plan : Plan} (h : plan.adjusted = true) (styleLength : Nat) (s : State) :
    flagHeld .planAdjusted (acceptPlan slot plan styleLength s) = true := by
  rw [acceptPlan_eq]
  split
  · exact flagHeld_completeOrder slot (admitted_planAdjusted h styleLength s)
  · exact admitted_planAdjusted h styleLength s

/-! ### ADMIT (R34) -/

/-- The head `h` is a slot ADMIT takes a piece from (R32, R34). -/
theorem admitSlot_eq_some {s : State} {h : Fin 8} {rest : List (Fin 8)} (hc : s.lc.record.continuous = false)
    (hl : s.lc.line = .stopped ∨ s.lc.line = .running ∨ s.lc.line = .stopping) (hr : s.pq.runList = h :: rest)
    (ha : s.pq.slots[h].state = .active) (hn : s.pq.pieces.length < 48) : admitSlot s = some h := by
  have line : lineAdmits s.lc.line = true := by rcases hl with e | e | e <;> rw [e] <;> rfl
  simp only [admitSlot, hc, line, readyHead, hr, ha, Config.queueLimit, hn]
  rfl

/-- ADMIT is refused (R34). -/
theorem admitSlot_eq_none {s : State}
    (h : s.lc.record.continuous = true ∨ s.lc.line = .hold ∨ s.lc.line = .fault ∨ 48 ≤ s.pq.pieces.length ∨
      s.pq.runList = [] ∨ ∃ h rest, s.pq.runList = h :: rest ∧ s.pq.slots[h].state ≠ .active) : admitSlot s = none := by
  have barred (hb : (s.lc.record.continuous || !lineAdmits s.lc.line) = true) : admitSlot s = none := if_pos hb
  have unready (hr : readyHead s = none) : admitSlot s = none := by simp [admitSlot, hr]
  rcases h with h | h | h | h | h | ⟨i, rest, hr, hi⟩
  · exact barred (by simp [h])
  · exact barred (by simp [h, lineAdmits])
  · exact barred (by simp [h, lineAdmits])
  · refine unready ?_
    unfold readyHead
    split
    · rfl
    · simp [Config.queueLimit, Nat.not_lt.mpr h]
  · exact unready (by simp [readyHead, h])
  · simp only [Fin.getElem_fin] at hi
    exact unready (by simp [readyHead, hr, hi])

theorem exec_admit {rq : Request} {s : State} (h : served rq s) (hargs : rq.args = []) :
    exec (.admitPiece rq) s = .next (serveAdmit rq (setClock rq.time s)) :=
  exec_serves h rfl (by simp [hargs]) fun _ => rfl

/-- ADMIT from a slot whose walk completes (R34, R35). -/
theorem serveAdmit_of_plan {rq : Request} {s : State} {h : Fin 8} {px : Translator} {plan : Plan} {n : Nat}
    (hs : admitSlot s = some h) (hw : walk s.px h s.pq.slots[h] = (px, .ok (plan, n))) :
    serveAdmit rq s = respondDone 10 rq 1 (beBytes 2 (newId s)) (acceptPlan h plan n { s with px := px }) := by
  simp only [serveAdmit, hs, admitFrom, hw]
  rfl

/-- ADMIT from a slot whose walk faults (R34, R37). -/
theorem serveAdmit_of_stop {rq : Request} {s : State} {h : Fin 8} {px : Translator} {stop : WalkStop}
    (hs : admitSlot s = some h) (hw : walk s.px h s.pq.slots[h] = (px, .error stop)) :
    serveAdmit rq s =
      respondDone 10 rq 0
        (byte stop.kind.code ++ beBytes 2 stop.entry ++ byte stop.level.code ++ byte s.pq.slots[h].cursor)
        (faultSlot h { kind := stop.kind, entry := stop.entry, level := stop.level, cursor := s.pq.slots[h].cursor }
          { s with px := px }) := by
  simp only [serveAdmit, hs, admitFrom, hw]
  rfl

/-- A FLAT designation's walk never faults (R15). -/
theorem walk_of_flat {px : Translator} {slot : Fin 8} {o : OrderSlot} (h : o.dtype = .flat) :
    walk px slot o = (px, .ok (flatPlan o.flatLength o.cls, 1)) := by
  simp only [walk, h]

end Sys2Proof.Machine
end

section
namespace Sys2Proof.Machine

/-- The belt span of a new piece begins where the queue's last one ends (R40). -/
theorem newBeltStart_eq (s : State) : newBeltStart s = (s.pq.pieces.getLast?.map Piece.beltEnd).getD s.fs.formed := by
  unfold newBeltStart
  cases s.pq.pieces.getLast? <;> rfl

/-- An admission that ends a skirt (R35). -/
theorem advanceCursor_of_skirt {styleLength : Nat} {o : OrderSlot} (h : styleLength ≤ o.cursor + 1) :
    advanceCursor styleLength o = { o with cursor := 0, done := o.done + 1 } := if_pos h

/-- An admission within a skirt (R35). -/
theorem advanceCursor_within {styleLength : Nat} {o : OrderSlot} (h : ¬styleLength ≤ o.cursor + 1) :
    advanceCursor styleLength o = { o with cursor := o.cursor + 1 } := if_neg h

theorem orderComplete_iff (styleLength : Nat) (o : OrderSlot) :
    orderComplete styleLength o = true ↔ styleLength ≤ o.cursor + 1 ∧ o.done + 1 = o.requested := by
  simp [orderComplete]

theorem orderComplete_eq_false_iff (styleLength : Nat) (o : OrderSlot) :
    orderComplete styleLength o = false ↔ ¬(styleLength ≤ o.cursor + 1 ∧ o.done + 1 = o.requested) := by
  rw [← orderComplete_iff, Bool.not_eq_true]

/-- The slot that is complete leaves the list it heads (R36). -/
theorem filter_cons_self (h : Fin 8) (rest : List (Fin 8)) :
    ((h :: rest).filter fun i => !decide (i = h)) = rest.filter fun i => decide (i ≠ h) := by
  simp

/-- The queue an admission leaves, and what it leaves beside it when no splice is armed or in flight (R35). -/
theorem acceptPlan_pieces (slot : Fin 8) (plan : Plan) (styleLength : Nat) (s : State) :
    ∃ front p, (acceptPlan slot plan styleLength s).pq.pieces = front ++ [p] ∧
      front.map Piece.id = s.pq.pieces.map Piece.id ∧ p.unseamed = (panelPiece slot plan s).unseamed ∧
      (s.sc.seam = none → s.sc.state = .idle ∨ s.sc.state = .ready →
        front = s.pq.pieces ∧ p = panelPiece slot plan s ∧ (acceptPlan slot plan styleLength s).cl = s.cl ∧
          (acceptPlan slot plan styleLength s).sc = s.sc) := by
  obtain ⟨hpieces, -, hcl, hsc⟩ := acceptPlan_pq slot plan styleLength s
  obtain ⟨front, p, hsplit, hfront, hp⟩ := admitted_pieces slot plan styleLength s
  refine ⟨front, p, hpieces.trans hsplit, ?_, hp, fun hseam hst => ?_⟩
  · simpa [Function.comp_def, Piece.unseamed] using congrArg (List.map Piece.id) hfront
  · obtain ⟨hrest, hcl', hsc'⟩ := admitted_of_rest (slot := slot) (plan := plan) (styleLength := styleLength) hseam hst
    obtain ⟨hf, hlast⟩ := List.append_inj' (hsplit.symm.trans hrest) rfl
    exact ⟨hf, List.singleton_inj.mp hlast, hcl.trans hcl', hsc.trans hsc'⟩

end Sys2Proof.Machine
end

section
open Sys2Proof Sys2Proof.Machine

/-- Settles O35: an admission is `acceptPlan` of the plan walked; its piece is known but for the seam that SC's planning
may write into it, and its slot and the run list by whether the order is complete. -/
theorem admitAppendsOnePieceOrIsRefused : Obligations.AdmitAppendsOnePieceOrIsRefused := by
  refine ⟨fun s => ?_, fun rq s hreq hargs hno => ?_, fun rq s h rest hreq hargs hc hl hr ha hn hflat => ?_,
    fun rq s h rest px hreq hargs hc hl hr ha hn => ?_⟩
  · intro next taken nth
    have htaken (n : Nat) : idTaken n s.pq.pieces = true ↔ taken n := idTaken_iff n s.pq.pieces
    have hfree (n : Nat) : idTaken n s.pq.pieces = false ↔ ¬taken n := by rw [← htaken, Bool.not_eq_true]
    refine ⟨fun h0 => newId_eq_repeat (k := 0) (fun j hj => absurd hj (Nat.not_lt_zero j)) ((hfree _).mpr h0),
      fun k hbefore hk => newId_eq_repeat (fun j hj => (htaken _).mpr (hbefore j hj)) ((hfree _).mpr hk)⟩
  · rw [exec_admit hreq hargs]
    simp only [serveAdmit, admitSlot_eq_none (s := setClock rq.time s) hno]
  · have hslot : admitSlot (setClock rq.time s) = some h := admitSlot_eq_some hc hl hr ha hn
    have hskirt : 1 ≤ s.pq.slots[h].cursor + 1 := Nat.le_add_left ..
    have hadvance : advanceCursor 1 (setClock rq.time s).pq.slots[h] =
        { s.pq.slots[h] with cursor := 0, done := s.pq.slots[h].done + 1 } := advanceCursor_of_skirt hskirt
    let plan := flatPlan s.pq.slots[h].flatLength s.pq.slots[h].cls
    obtain ⟨front, p, hsplit, hids, hp, hrest⟩ := acceptPlan_pieces h plan 1 (setClock rq.time s)
    have hid : p.id = newId s := congrArg Piece.id hp
    have hstart : p.beltStart = newBeltStart s := congrArg Piece.beltStart hp
    have hend : p.beltEnd = newBeltStart s + BitVec.ofNat 32 plan.belt := congrArg Piece.beltEnd hp
    refine ⟨_, front, p, ?answer, hsplit, hids, hid, congrArg Piece.slot hp, congrArg Piece.load hp,
      congrArg Piece.done hp, congrArg Piece.state hp, congrArg Piece.span hp, congrArg Piece.doses hp, congrArg Piece.verdict hp,
      congrArg Piece.plan hp, hstart.trans (newBeltStart_eq s), hend.trans (by rw [hstart]; rfl), And.left ?slot,
      And.right ?slot, fun hdone => ?complete, fun hdone => ?incomplete, fun hseam hst => ?rest, ?nextId, ?frame⟩
    case answer =>
      rw [exec_admit hreq hargs, serveAdmit_of_plan hslot (walk_of_flat hflat), hid]
      rfl
    case nextId => exact (acceptPlan_pq ..).2.1.trans (by rw [hid]; rfl)
    case rest =>
      obtain ⟨hfront, rfl, hcl, hsc⟩ := hrest hseam hst
      exact ⟨hfront, rfl, rfl, hcl, hsc⟩
    case frame => simp
    case slot =>
      cases hcomplete : orderComplete 1 s.pq.slots[h] with
      | true =>
        obtain ⟨hslots, -⟩ := acceptPlan_of_complete (plan := plan) (s := setClock rq.time s) hcomplete
        rw [hslots, hadvance]
        exact ⟨rfl, rfl⟩
      | false =>
        obtain ⟨hslots, -⟩ := acceptPlan_of_incomplete (plan := plan) (s := setClock rq.time s) hcomplete
        rw [hslots, hadvance]
        exact ⟨rfl, rfl⟩
    case complete =>
      obtain ⟨hslots, hlist, -⟩ := acceptPlan_of_complete (plan := plan) (s := setClock rq.time s)
        ((orderComplete_iff 1 s.pq.slots[h]).mpr ⟨hskirt, hdone⟩)
      exact ⟨by rw [hslots], (hlist.trans (congrArg _ hr)).trans (filter_cons_self h rest)⟩
    case incomplete =>
      obtain ⟨hslots, hlist⟩ := acceptPlan_of_incomplete (plan := plan) (s := setClock rq.time s)
        ((orderComplete_eq_false_iff 1 s.pq.slots[h]).mpr fun ⟨_, he⟩ => hdone he)
      exact ⟨by rw [hslots, hadvance]; exact ha, hlist⟩
  · intro o
    have hslot : admitSlot (setClock rq.time s) = some h := admitSlot_eq_some hc hl hr ha hn
    refine ⟨fun stop hw => ?_, fun plan n hd hw => ?_⟩
    · rw [exec_admit hreq hargs, serveAdmit_of_stop (s := setClock rq.time s) hslot hw]
      rfl
    · let v : State := { setClock rq.time s with px := px }
      have hcursor : o.cursor < n := by
        obtain ⟨px1, ref, px2, index, e, stored, -, hstyle, -, -, rfl⟩ := levels_of_walk_ok hd hw
        exact cursor_lt_of_walkStyle_ok hstyle
      obtain ⟨front, p, hsplit, hids, hp, -⟩ := acceptPlan_pieces h plan n v
      have hid : p.id = newId s := congrArg Piece.id hp
      have hstart : p.beltStart = newBeltStart s := congrArg Piece.beltStart hp
      have hend : p.beltEnd = newBeltStart s + BitVec.ofNat 32 plan.belt := congrArg Piece.beltEnd hp
      refine ⟨hcursor, _, front, p, ?answer, hsplit, hids, hid, congrArg Piece.slot hp, congrArg Piece.load hp,
        congrArg Piece.gradeIndex hp, congrArg Piece.cursor hp, congrArg Piece.done hp, congrArg Piece.state hp,
        congrArg Piece.span hp, congrArg Piece.doses hp, congrArg Piece.verdict hp, congrArg Piece.plan hp,
        congrArg (fun q : Piece => q.flags.adjusted) hp, fun hadj => acceptPlan_planAdjusted hadj n v,
        hstart.trans (newBeltStart_eq s), hend.trans (by rw [hstart]), fun hwithin => ?within,
        fun hskirt hmore => ?skirt, fun hskirt hlast => ?finished, ?nextId, ?px, ?mem, ?frame⟩
      case answer => rw [exec_admit hreq hargs, serveAdmit_of_plan (s := setClock rq.time s) hslot hw, hid]; rfl
      case within =>
        have hno : ¬n ≤ o.cursor + 1 := by omega
        have incomplete : orderComplete n v.pq.slots[h] = false :=
          (orderComplete_eq_false_iff n o).mpr fun ⟨hle, _⟩ => hno hle
        exact advanceCursor_within (o := o) hno ▸ acceptPlan_of_incomplete (plan := plan) incomplete
      case skirt =>
        have incomplete : orderComplete n v.pq.slots[h] = false :=
          (orderComplete_eq_false_iff n o).mpr fun ⟨_, hdone⟩ => hmore hdone
        exact advanceCursor_of_skirt (o := o) (Nat.le_of_eq hskirt.symm) ▸ acceptPlan_of_incomplete (plan := plan) incomplete
      case finished =>
        have complete : orderComplete n v.pq.slots[h] = true := (orderComplete_iff n o).mpr ⟨(Nat.le_of_eq hskirt.symm), hlast⟩
        obtain ⟨hslots, hlist, hflag, hhead⟩ := acceptPlan_of_complete (plan := plan) complete
        refine ⟨hslots.trans ?_, hflag, hlist.trans ?_, hhead⟩
        · rw [show v.pq.slots[h] = o from rfl, advanceCursor_of_skirt (Nat.le_of_eq hskirt.symm)]
        · exact (congrArg _ hr).trans (filter_cons_self h rest)
      case nextId => exact (acceptPlan_pq ..).2.1.trans (by rw [hid]; rfl)
      case px => simp [v]
      case mem => simpa [hw] using (walk_frame s.px h o).1
      case frame => simp [v]

end

section
namespace Sys2Proof.Machine

/-! ### The records that a READ keeps (R204) -/

/-- The records kept are the first ones. -/
theorem fitRecords_eq_take (budget : Nat) (rs : List (List Byte)) :
    fitRecords budget rs = rs.take (fitRecords budget rs).length := by
  induction rs generalizing budget with
  | nil => rfl
  | cons r rs ih =>
    unfold fitRecords
    split
    · simpa using ih _
    · rfl

theorem fitRecords_length_le (budget : Nat) (rs : List (List Byte)) : (fitRecords budget rs).length ≤ rs.length := by
  rw [fitRecords_eq_take]
  exact List.length_take_le' ..

/-- They fit in the budget. -/
theorem fitRecords_flatten_le (budget : Nat) (rs : List (List Byte)) : (fitRecords budget rs).flatten.length ≤ budget := by
  induction rs generalizing budget with
  | nil => simp [fitRecords]
  | cons r rs ih =>
    unfold fitRecords
    split
    · have := ih (budget - r.length)
      simp only [List.flatten_cons, List.length_append]
      omega
    · simp

/-- And the next one would not. -/
theorem lt_fitRecords_next (budget : Nat) (rs : List (List Byte)) (h : (fitRecords budget rs).length < rs.length) :
    budget < (rs.take ((fitRecords budget rs).length + 1)).flatten.length := by
  induction rs generalizing budget with
  | nil => cases h
  | cons r rs ih =>
    unfold fitRecords at h ⊢
    split at h
    · rename_i hr
      have := ih (budget - r.length) (by simpa using h)
      simp only [hr, if_true, List.length_cons, List.take_succ_cons, List.flatten_cons, List.length_append]
      omega
    · rename_i hr
      have : budget < r.length := Nat.not_le.mp hr
      simpa [hr] using this

/-! ### The frames of a stream (R204) -/

/-- How many parts of 52 bytes a stream takes. -/
def partCount (bs : List Byte) : Nat := (bs.length + 51) / 52

/-- A list cut in parts of 52. -/
theorem chunks_eq (fuel : Nat) (bs : List Byte) (h : bs.length ≤ fuel) :
    chunks 52 fuel bs = (List.range (partCount bs)).map fun k => (bs.drop (52 * k)).take 52 := by
  induction fuel generalizing bs with
  | zero =>
    obtain rfl := List.length_eq_zero_iff.mp (Nat.le_zero.mp h)
    rfl
  | succ fuel ih =>
    unfold chunks
    cases bs with
    | nil => rfl
    | cons b bs =>
      have hlen : ((b :: bs).drop 52).length = bs.length - 51 := by simp
      have hcount : partCount (b :: bs) = partCount ((b :: bs).drop 52) + 1 := by
        simp only [partCount, hlen, List.length_cons]
        omega
      rw [hcount, List.range_succ_eq_map, List.map_cons, ih _ (by simp only [List.length_cons] at h; omega)]
      simp only [List.isEmpty_cons, Bool.false_eq_true, if_false, List.map_map, List.drop_drop, Nat.mul_zero, List.drop_zero]
      congr 1
      refine List.map_congr_left fun k _ => ?_
      simp only [Function.comp_apply, Nat.mul_succ, Nat.add_comm]

/-- The parts of a stream; an empty one gives one part with no bytes. -/
theorem streamParts_eq (bs : List Byte) :
    streamParts bs = (List.range (max 1 (partCount bs))).map fun k => (bs.drop (52 * k)).take 52 := by
  unfold streamParts
  cases bs with
  | nil => rfl
  | cons b bs =>
    have : max 1 (partCount (b :: bs)) = partCount (b :: bs) := by
      simp only [partCount, List.length_cons]
      omega
    rw [this]
    exact chunks_eq _ _ (Nat.le_refl _)

/-- One frame of a READ: part `k`, with the number of frames that follow (R204). -/
def readFrame (rq : Request) (first : Nat) (x : Selection) (k after : Nat) (part : List Byte) : Report :=
  .response rq.src 4 rq.tag (if x.whole then .done else .partialClose) (if x.whole then .none else .length) after
    (beBytes 2 first ++ beBytes 2 x.kept.length ++ beBytes 2 (52 * k) ++ part)

/-- The frames number downward, one for each part. -/
theorem readFrames_map (rq : Request) (first : Nat) (x : Selection) (f : Nat → List Byte) (n k : Nat) :
    readFrames rq first x k ((List.range n).map f) =
      (List.range n).map fun i => readFrame rq first x (k + i) (n - 1 - i) (f i) := by
  induction n generalizing k f with
  | zero => rfl
  | succ n ih =>
    rw [List.range_succ_eq_map, List.map_cons, List.map_map, readFrames, ih]
    simp only [List.map_cons, List.map_map, List.length_map, List.length_range]
    congr 1
    refine List.map_congr_left fun i _ => ?_
    simp only [Function.comp_apply, Nat.succ_eq_add_one, Nat.add_assoc, Nat.add_comm 1 i, Nat.add_sub_cancel,
      Nat.sub_sub]

/-- A READ that selects something (R203, R204). -/
theorem serveRead_of_selection {rq : Request} {s : State} {x : Selection}
    (h : selectRead (field rq.args 0 1) (field rq.args 1 2) (field rq.args 3 2) s = some x) :
    serveRead rq s =
      (List.range (max 1 (partCount x.stream))).foldl
        (fun t k =>
          respond 4 rq (if x.whole then .done else .partialClose) (if x.whole then .none else .length)
            (max 1 (partCount x.stream) - 1 - k)
            (beBytes 2 (field rq.args 1 2) ++ beBytes 2 x.kept.length ++ beBytes 2 (52 * k) ++
              (x.stream.drop (52 * k)).take 52) t)
        s := by
  simp only [serveRead, h, streamParts_eq, readFrames_map, List.foldl_map, readFrame, respond, Nat.zero_add]
  rfl

/-- A READ that selects nothing (R203). -/
theorem serveRead_of_none {rq : Request} {s : State}
    (h : selectRead (field rq.args 0 1) (field rq.args 1 2) (field rq.args 3 2) s = none) :
    serveRead rq s = refuse 4 rq .range s := by
  simp only [serveRead, h]

/-! ### The selection of a READ (R203) -/

section selection

variable {first count : Nat} {s : State}

theorem selectRead_of_no_count (table : Nat) : selectRead table first 0 s = none := rfl

theorem selectRead_of_beyond {table : Nat} {t : Table} (ht : Table.ofCode table = some t)
    (h : t.records < first + count) : selectRead table first count s = none := by
  unfold selectRead
  split
  · rfl
  · simp [ht, h]

theorem selectRead_of_table {table : Nat} {t : Table} (ht : Table.ofCode table = some t) (hc : 1 ≤ count)
    (h : first + count ≤ t.records) : selectRead table first count s = some (selectTable t first count s) := by
  have hc' : count ≠ 0 := by omega
  simp [selectRead, ht, hc', Nat.not_lt.mpr h]

theorem selectRead_of_unlisted {table : Nat} (h : ¬(1 ≤ table ∧ table ≤ 10)) : selectRead table first count s = none := by
  have hn : Table.ofCode table = none := Table.ofCode_eq_none fun hr => h ⟨hr.1, by omega⟩
  unfold selectRead
  split
  · rfl
  · rw [hn]
    split
    case h_6 => rfl
    all_goals simp_all

theorem selectRead_pieces (hc : 1 ≤ count) :
    selectRead 7 first count s = some ⟨((s.pq.pieces.drop first).take count).map Piece.bytes, []⟩ := by
  have hc' : count ≠ 0 := by omega
  simp [selectRead, hc', Table.ofCode, inRangeOf]

theorem selectRead_cells (hc : 1 ≤ count) :
    selectRead 8 first count s =
      some ⟨((s.cl.drop first).take count).map BeltCell.bytes, if s.cl.length ≤ first + count then cellClosing s else []⟩ := by
  have hc' : count ≠ 0 := by omega
  simp [selectRead, hc', Table.ofCode, inRangeOf]

theorem selectRead_manifest : selectRead 9 0 1 s = some ⟨[manifestRecord s.tc], []⟩ := rfl

theorem selectRead_manifest_none (h : first ≠ 0 ∨ count ≠ 1) : selectRead 9 first count s = none := by
  have : ¬(first = 0 ∧ count = 1) := by omega
  simp [selectRead, Table.ofCode, this]

theorem selectRead_lookaside (hc : 1 ≤ count) (h : first + count ≤ 32) :
    selectRead 10 first count s =
      some ⟨((s.px.lookaside.toList.drop first).take count).map LookEntry.bytes,
        if 32 ≤ first + count then lookClosing s else []⟩ := by
  have hc' : count ≠ 0 := by omega
  simp [selectRead, hc', Table.ofCode, inRangeOf, Nat.not_lt.mpr h]

theorem selectRead_lookaside_none (h : 32 < first + count) : selectRead 10 first count s = none := by
  simp [selectRead, Table.ofCode, h]

end selection

end Sys2Proof.Machine
end

section
namespace Sys2Proof.Machine

/-! ### Byte counts (R194) -/

@[simp] theorem beBytes_length (n v : Nat) : (beBytes n v).length = n := by
  induction n with
  | zero => rfl
  | succ n ih => simp [beBytes, ih]

@[simp] theorem byte_length (n : Nat) : (byte n).length = 1 := rfl

@[simp] theorem positionBytes_length (x : Position) : (positionBytes x).length = 4 := rfl

theorem writeBytes_length (w : Option OpenWrite) : (writeBytes w).length = 6 := by
  cases w <;> rfl

theorem statusLine_length (s : State) : (statusLine s).length = 29 := by
  simp [statusLine, linePage, headByte, writeBytes_length]

theorem statusMotion_length (s : State) : (statusMotion s).length = 36 := by
  simp [statusMotion, encoderBytes]

theorem statusStations_length (s : State) : (statusStations s).length = 57 := by
  simp [statusStations, zoneIndices, zoneStatus, spliceStatus, unwindBytes, takeUpStatusBytes]

/-! ### The answer to a READ (R203, R204) -/

/-- A state that differs in reports and flags at most, field by field. -/
theorem eq_of_fields {s t : State} (pending : t.pending = s.pending) (clock : t.clock = s.clock) (rp : t.rp = s.rp)
    (act : t.act = s.act) (nm : t.nm = s.nm) (openWrite : t.mu.openWrite = s.mu.openWrite) (px : t.px = s.px)
    (pq : t.pq = s.pq) (fs : t.fs = s.fs) (pt : t.pt = s.pt) (cl : t.cl = s.cl) (zr : t.zr = s.zr) (da : t.da = s.da)
    (sg : t.sg = s.sg) (sc : t.sc = s.sc) (tc : t.tc = s.tc) (lc : t.lc = s.lc) :
    t = { s with report := t.report, mu.flags := t.mu.flags } := by
  dsimp only
  rw [← pending, ← clock, ← rp, ← act, ← nm, ← openWrite, ← px, ← pq, ← fs, ← pt, ← cl, ← zr, ← da, ← sg, ← sc, ← tc,
    ← lc]

/-- A READ writes reports, and the flag a full queue raises, and nothing else. -/
theorem serveRead_changes (rq : Request) (s : State) :
    serveRead rq s = { s with report := (serveRead rq s).report, mu.flags := (serveRead rq s).mu.flags } := by
  apply eq_of_fields <;> simp

theorem Selection.whole_iff (x : Selection) :
    x.whole = true ↔ x.kept.length = x.records.length ∧ x.records.flatten.length + x.closing.length ≤ 416 := by
  simp [Selection.whole, Config.readStreamBytes]

theorem Selection.stream_eq (x : Selection) : x.stream = x.kept.flatten ++ if x.whole then x.closing else [] := by
  unfold Selection.stream
  split <;> simp

/-- A READ of one pattern entry is one frame of its 16 bytes (R3, R204). -/
theorem serveRead_pattern {rq : Request} {s : State} (hcode : field rq.args 0 1 = 1) (hcount : field rq.args 3 2 = 1)
    (hfirst : field rq.args 1 2 < 4096) :
    serveRead rq s =
      respondDone 4 rq 0
        (beBytes 2 (field rq.args 1 2) ++ beBytes 2 1 ++ beBytes 2 0 ++ readEntry s.px.mem (field rq.args 1 2)) s := by
  have hlen : (readEntry s.px.mem (field rq.args 1 2)).length = 16 := by simp [readEntry, Config.entryBytes]
  generalize hentry : readEntry s.px.mem (field rq.args 1 2) = entry at hlen
  have hselect : selectRead (field rq.args 0 1) (field rq.args 1 2) (field rq.args 3 2) s = some ⟨[entry], []⟩ := by
    rw [selectRead_of_table (t := .pattern) (by rw [hcode]; rfl) (by omega) (by simp only [Table.records]; omega)]
    simp [selectTable, hcount, tableRecord, hentry]
  have hkept : Selection.kept ⟨[entry], []⟩ = [entry] := by simp [Selection.kept, fitRecords, Config.readStreamBytes, hlen]
  have hwhole : Selection.whole ⟨[entry], []⟩ = true := (Selection.whole_iff _).mpr (by simp [hkept, hlen])
  have hstream : Selection.stream ⟨[entry], []⟩ = entry := by simp [Selection.stream_eq, hkept]
  rw [serveRead_of_selection hselect, hstream, hwhole, hkept]
  simp [partCount, hlen, respondDone, List.take_of_length_le]

/-! ### STATUS and the MANIFEST view (R163, R205) -/

theorem serveStatus_of_page {rq : Request} {s : State} {data : List Byte}
    (h : statusPage (field rq.args 0 1) s = some data) :
    serveStatus rq s = respondDone 5 rq (field rq.args 0 1) data s := by
  simp only [serveStatus, h]

/-- There are three pages (R205). -/
theorem serveStatus_of_no_page {rq : Request} {s : State} (h : 2 < field rq.args 0 1) :
    serveStatus rq s = refuse 5 rq .range s := by
  have none_page : statusPage (field rq.args 0 1) s = none := by
    unfold statusPage
    split
    case h_4 => rfl
    all_goals omega
  simp only [serveStatus, none_page]

/-- The closing manifest's part of the MANIFEST record (R163). -/
def closingBytes (closing : Option Manifest) : List Byte :=
  match closing with
  | some m => byte 1 ++ m.bytes
  | none => byte 0

theorem manifestRecord_eq (tc : TakeUpController) :
    manifestRecord tc =
      tc.current.bytes ++ closingBytes tc.closing ++ byte tc.winder.code ++ beBytes 2 tc.current.roll ++
        beBytes 2 (tc.currentPiece.getD 0) ++ lastOrderBytes tc.lastOrder := by
  unfold manifestRecord closingBytes
  cases tc.closing <;> rfl

theorem lastOrderBytes_length (o : Option (Fin 8 × BitVec 8)) : (lastOrderBytes o).length = 2 := by
  cases o <;> rfl

/-- The two bytes of a count that they can hold (assumptions 23 and 54). -/
theorem unlistedBytes_spec (n : Nat) :
    (unlistedBytes n).length = 2 ∧ (n < 65536 → unlistedBytes n = beBytes 2 n) := by
  refine ⟨?_, fun h => if_pos h⟩
  unfold unlistedBytes
  split <;> simp

theorem leadBytes_spec (n : Nat) : (leadBytes n).length = 2 ∧ (n < 65536 → leadBytes n = beBytes 2 n) := by
  refine ⟨?_, fun h => if_pos h⟩
  unfold leadBytes
  split <;> simp

end Sys2Proof.Machine
end

section
open Sys2Proof Sys2Proof.Machine

/-- Settles O22: READ is its selection, cut after the records that fit and sent in parts of 52 bytes; the pages and records
are the fields in their order, the codes compared value by value. -/
theorem readsReportWithoutChanging : Obligations.ReadsReportWithoutChanging := by
  refine ⟨fun rq s h hl => ?_, fun rq s h hl => ?_, ?_⟩
  · have serves : exec (.read rq) s = .next (serveRead rq (setClock rq.time s)) :=
      exec_serves h rfl (by simpa using hl) fun _ => rfl
    intro code first count at0 selects
    have refused (hnone : selectRead code first count at0 = none) : exec (.read rq) s = .next (refuse 4 rq .range at0) := by
      rw [serves, serveRead_of_none hnone]
    refine ⟨⟨_, serves, serveRead_changes _ _⟩, fun hcode hcount hfirst => ?_, fun records closing hsel => ?_,
      fun hno => refused ?_, fun t ht hbeyond => refused (selectRead_of_beyond ht hbeyond), fun hcode hno => refused ?_,
      fun hcode hno => refused ?_⟩
    · rw [serves, serveRead_pattern hcode hcount hfirst]
      rfl
    · have hselect : selectRead code first count at0 = some ⟨records, closing⟩ := by
        obtain ⟨hc, ⟨t, ht, hr, rfl, rfl⟩ | ⟨hcode, rfl, rfl⟩ | ⟨hcode, rfl, rfl⟩ | ⟨hcode, hf, hc1, rfl, rfl⟩ |
          ⟨hcode, hr, rfl, rfl⟩⟩ := hsel
        · exact selectRead_of_table ht hc hr
        · exact hcode ▸ selectRead_pieces hc
        · exact hcode ▸ selectRead_cells hc
        · rw [hcode, hf, hc1]
          exact selectRead_manifest
        · have hend : first + count = 32 ↔ 32 ≤ first + count := by omega
          rw [hcode, selectRead_lookaside hc hr]
          simp only [hend]
          rfl
      generalize hx : (⟨records, closing⟩ : Selection) = x at hselect
      have hrecords : x.records = records := by rw [← hx]
      have hclosing : x.closing = closing := by rw [← hx]
      have hkept : x.kept = records.take x.kept.length := hrecords ▸ fitRecords_eq_take _ _
      have hnext : x.kept.length < records.length → 416 < (records.take (x.kept.length + 1)).flatten.length := by
        rw [← hrecords]
        exact lt_fitRecords_next 416 x.records
      refine ⟨x.kept.length, hrecords ▸ fitRecords_length_le _ _, hkept ▸ fitRecords_flatten_le _ _, hnext, ?_⟩
      intro whole stream frames
      have hwhole : x.whole = true ↔ whole := by rw [x.whole_iff, hrecords, hclosing]
      have hstream : x.stream = stream := by
        simp only [x.stream_eq, stream, ← hkept, hwhole, hclosing]
      rw [serves, serveRead_of_selection hselect, hstream]
      simp only [hwhole]
      rfl
    · rcases hno with hcode | hcount
      · exact selectRead_of_unlisted hcode
      · rw [hcount]
        exact selectRead_of_no_count _
    · rw [hcode]
      exact selectRead_manifest_none hno
    · rw [hcode]
      exact selectRead_lookaside_none hno
  · have serves : exec (.status rq) s = .next (serveStatus rq (setClock rq.time s)) :=
      exec_serves h rfl (by simpa using hl) fun _ => rfl
    intro at0
    refine ⟨fun hp => ?_, fun hp => ?_, fun hp => ?_, fun hp => ?_, statusLine_length _, statusMotion_length _,
      statusStations_length _⟩
    · rw [serves, serveStatus_of_page (by rw [hp]; rfl), hp]
    · rw [serves, serveStatus_of_page (by rw [hp]; rfl), hp]
    · rw [serves, serveStatus_of_page (by rw [hp]; rfl), hp]
    · rw [serves, serveStatus_of_no_page hp]
  · intro bit
    refine ⟨fun s => ?line, fun s => ?motion, fun s => ?stations, fun c => rfl, fun e => rfl, fun tc => ?manifest,
      fun p => ?piece⟩
    case line =>
      intro line cause fs table write
      have hline : s.lc.line.code = line := by
        simp only [line]
        cases s.lc.line <;> rfl
      have hcause : optNat (s.lc.cause.map LineFault.code) 0 = cause := by
        simp only [cause]
        rcases s.lc.cause with _ | c
        · rfl
        · cases c <;> rfl
      have hfs : s.fs.state.code = fs := by
        simp only [fs]
        cases s.fs.state <;> rfl
      have hwrite : writeBytes s.mu.openWrite = write := by
        simp only [write, table]
        rcases s.mu.openWrite with _ | w
        · rfl
        · simp only [writeBytes]
          cases w.table <;> rfl
      simp only [statusLine, linePage, hline, hcause, hfs, hwrite, List.append_assoc]
      rfl
    case motion =>
      intro encoder
      have hencoder (e : EncoderRecord) : encoderBytes e = encoder e := by
        simp only [encoderBytes, encoder]
        cases e.state <;> rfl
      simp only [statusMotion, hencoder]
      rfl
    case stations =>
      intro zone splicer splicerLast unwind winder takeUpLast
      have hzone (z : Zone) : zoneStatus z = zone z := by
        simp only [zoneStatus, Zone.stateByte, zone]
        cases z.state <;> rfl
      have hsplicer : s.sc.state.code = splicer := by
        simp only [splicer]
        cases s.sc.state <;> rfl
      have hsplicerLast : optNat (s.sc.lastStatus.map SplicerReport.code) 0xFF = splicerLast := by
        simp only [splicerLast]
        rcases s.sc.lastStatus with _ | r
        · rfl
        · cases r <;> rfl
      have hunwind (u : UnwindRecord) : unwindBytes u = unwind u := by
        simp only [unwindBytes, unwind]
        rcases hlast : u.lastStatus with _ | r
        · cases u.state <;> rfl
        · cases u.state <;> cases r <;> rfl
      have hwinder : s.tc.winder.code = winder := by
        simp only [winder]
        cases s.tc.winder <;> rfl
      have htakeUp : optNat (s.tc.lastStatus.map TakeUpReport.code) 0xFF = takeUpLast := by
        simp only [takeUpLast]
        rcases s.tc.lastStatus with _ | r
        · rfl
        · cases r <;> rfl
      simp only [statusStations, spliceStatus, takeUpStatusBytes, hzone, hsplicer, hsplicerLast, hunwind, hwinder, htakeUp,
        List.append_assoc]
      rfl
    case manifest =>
      intro manifest counts winder
      have hwinder : tc.winder.code = winder := by
        simp only [winder]
        cases tc.winder <;> rfl
      have hmanifest (m : Manifest) : m.bytes = manifest m (unlistedBytes m.unlisted) := by
        simp only [Manifest.bytes, manifest, List.flatMap_def]
      refine ⟨unlistedBytes tc.current.unlisted, lastOrderBytes tc.lastOrder, closingBytes tc.closing,
        unlistedBytes_spec _, lastOrderBytes_length _, ?_, fun hnone => ?_, fun m hm => ?_, fun slot load hlast => ?_,
        fun hnone => ?_⟩
      · rw [manifestRecord_eq, hmanifest, hwinder]
      · rw [hnone]; rfl
      · exact ⟨_, unlistedBytes_spec m.unlisted, by rw [hm, closingBytes, hmanifest]; rfl⟩
      · rw [hlast]; rfl
      · rw [hnone]; rfl
    case piece =>
      intro state verdict run
      have hstate : p.state.code = state := by
        simp only [state]
        cases p.state <;> rfl
      have hverdict : p.verdict.code = verdict := by
        simp only [verdict]
        cases p.verdict <;> rfl
      have hrun (r : Run) : r.block ++ byte (bitByte 0 r.flat) = run r (leadBytes r.lead) := by
        simp only [Run.block, run, List.append_assoc]
        cases r.kind <;> cases r.dir <;> rfl
      refine ⟨fun r => leadBytes r.lead, fun r => leadBytes_spec r.lead, ?_⟩
      simp only [Piece.bytes, Plan.bytes, hstate, hverdict, hrun, List.flatMap_def, List.append_assoc]
      rfl

end
